-- ==== Sys2Proof/Word.lean ====
section
/-! DEFINITION. The byte and 16-bit word types of both ports, and the byte order of 16-bit values. -/

namespace Sys2Proof

/-- A byte of either port or of a memory. -/
abbrev Byte := BitVec 8

/-- A 16-bit parameter or record field. -/
abbrev Half := BitVec 16

/-- A 16-bit value from its two bytes: high byte first (00_scope, 'Multi-byte parameters'; R184). -/
def halfOf (hi lo : Byte) : Half := hi ++ lo

/-- The high byte of a 16-bit value, the first one sent. -/
def Half.hi (h : Half) : Byte := h.extractLsb' 8 8

/-- The low byte of a 16-bit value, the second one sent. -/
def Half.lo (h : Half) : Byte := h.extractLsb' 0 8

end Sys2Proof
end

