-- ==== Sys2Proof/Syntax.lean ====
section
/-! DEFINITION. The commands of the block: one constructor per row of spec/opcode_table.json, with the row's operands as they are sent. -/

namespace Sys2Proof

/-- The master that issues a command both ports know (R183), with the form of the command byte on the
main bus port (R170: the reporting form has bit 7 set). -/
inductive Issuer where
  /-- the game processor, through the main bus port -/
  | game (reporting : Bool)
  /-- the system controller, through the side link -/
  | system
  deriving DecidableEq, Repr

/-- The commands. `reporting` is the form of a main-bus command (R170); bytes and 16-bit values are the
parameters in the order the command table gives (R183). A 16-bit operand stands for two parameter bytes,
high byte first. -/
inductive Instr where
  -- targets and status (R174, R175, R172)
  | select (reporting : Bool) (target index : Byte) (address : Half)
  | entry (reporting : Bool) (direction : Byte)
  | statusClear (reporting : Bool)
  -- store commands (R24, R31, R36, R9, R11)
  | openTxn (reporting : Bool) (slot size mode : Byte)
  | commit (reporting : Bool)
  | abort (reporting : Bool)
  | erase (reporting : Bool) (slot : Byte)
  | verify (reporting : Bool) (slot : Byte)
  -- the store hold and slot reads (R38, R41, R43)
  | hold (issuer : Issuer) (mode : Byte)
  | release (issuer : Issuer)
  | slotRead (slot : Byte) (offset : Half) (count : Byte)
  -- calendar (R54, R65, R67, R68)
  | clockSet (issuer : Issuer) (year month day hour minute second : Byte)
  | dayStart (reporting : Bool) (hour minute : Byte)
  | catchUpLimit (reporting : Bool) (limit : Half)
  | rebase (reporting : Bool) (day : Half)
  -- alarms (R76, R78)
  | alarmArm (issuer : Issuer) (entry kind repeatCode action due1 due2 due3 due4 due5 due6 : Byte)
  | alarmDisarm (issuer : Issuer) (entry : Byte)
  -- voices and waveforms (R98, R99, R100, R93, R97, R104)
  | voiceSet (reporting : Bool) (voice code start loop flags : Byte)
  | voiceStart (reporting : Bool) (mask : Byte)
  | voiceStop (reporting : Bool) (mask : Byte)
  | voicePitch (reporting : Bool) (voice : Byte) (divider : Half) (detune : Byte)
  | voiceLevel (reporting : Bool) (voice volume direction period : Byte)
  | waveLayout (reporting : Bool) (layout : Byte)
  -- stream ring and mixer (R117, R120, R133, R134, R109)
  | ringSet (reporting : Bool) (mark : Byte)
  | ringFlush (reporting : Bool)
  | mixSet (reporting : Bool) (volume rounding enable : Byte)
  | clipClear (reporting : Bool)
  | silence (issuer : Issuer)
  -- rumble (R144, R146, R145, R150)
  | rumbleDirect (reporting : Bool) (level : Byte)
  | rumblePattern (reporting : Bool) (pattern repeats : Byte)
  | rumbleLink (reporting : Bool) (voice : Byte)
  | rumbleStop (reporting : Bool)
  | rumbleLimit (reporting : Bool) (seconds : Byte)
  -- events (R163, R164, R165, R166)
  | eventAck (issuer : Issuer)
  | eventAckLost (issuer : Issuer)
  | eventMask (issuer : Issuer) (mask1 mask2 mask3 : Byte)
  | lineEnable (issuer : Issuer) (enable : Byte)
  -- supply requests and records (R187, R186, R181)
  | battery (issuer : Issuer) (state : Byte)
  | powerMode (issuer : Issuer) (mode : Byte)
  | readRecord (record index : Byte)
  -- unknown codes (R170, R180): the byte as it is sent
  | unknownCommand (byte : Byte)
  | unknownRequest (byte : Byte)
  -- data port (R176, R177) and frame end (R179)
  | dataWrite (byte : Byte)
  | dataRead
  | slselRelease
  -- supplies and RESET (R190, R191, R192, R188)
  | mainSupplyRise
  | mainSupplyFall
  | busReset
  | resetRelease
  | retentionLoss
  -- time (R50, R126, R148, R94, R116, R96, R82)
  | secondArrival
  /-- `envelopeFirst`: bit v says that voice v's envelope takes this frame before the Mixer reads it (R96) -/
  | frameArrival (envelopeFirst : BitVec 6)
  | tick
  | voiceStep (voice : Fin 5)
  | streamStep
  | envelopeMove (voice : Fin 6)
  | countdownExpiry (entry : Fin 8)
  -- walks (R8, R27, R33, R12)
  | walkPage
  | fillWalkDone
  | checkWalkDone
  | verifyWalkDone
  -- rumble in time (R147, R149, R143)
  | patternStepEnd
  | restBegin
  | restEnd
  | motorPeriod
  -- bytes of the ports (R170, R171, R179)
  | commandPortWrite (byte : Byte)
  | parameterByteWrite (byte : Byte)
  /-- `clocked`: SLD at each rising edge of SLCK after the assertion, before anything else arrives -/
  | slselAssertion (clocked : List Bool)
  deriving DecidableEq, Repr

end Sys2Proof
end

