-- ==== Sys2Proof/Decode.lean ====
section
/-! DEFINITION. The command table of R183 and the bytes each command is sent as. No row of spec/opcode_table.json gives bits, so decodeTableWord answers none. -/

namespace Sys2Proof

/-- R183, column 'Main bus port': how many parameters a known code needs; none for an unknown code. -/
def busParameters (code : Nat) : Option Nat :=
  match code with
  | 0x01 => some 4 | 0x02 => some 1 | 0x03 => some 0
  | 0x10 => some 3 | 0x11 => some 0 | 0x12 => some 0 | 0x13 => some 1 | 0x14 => some 1
  | 0x15 => some 1 | 0x16 => some 0
  | 0x20 => some 6 | 0x21 => some 2 | 0x22 => some 2 | 0x23 => some 2 | 0x24 => some 10 | 0x25 => some 1
  | 0x30 => some 5 | 0x31 => some 1 | 0x32 => some 1 | 0x33 => some 4 | 0x34 => some 4 | 0x35 => some 1
  | 0x36 => some 1 | 0x37 => some 0 | 0x38 => some 3 | 0x39 => some 0 | 0x3A => some 0
  | 0x40 => some 1 | 0x41 => some 2 | 0x42 => some 1 | 0x43 => some 0 | 0x44 => some 1
  | 0x50 => some 0 | 0x51 => some 0 | 0x52 => some 3 | 0x53 => some 1
  | 0x60 => some 1 | 0x61 => some 1
  | _ => none

/-- R183, column 'Side link': how many parameters a request byte needs; none for an unknown one. -/
def linkParameters (code : Nat) : Option Nat :=
  match code with
  | 0x15 => some 1 | 0x16 => some 0 | 0x17 => some 4
  | 0x20 => some 6 | 0x24 => some 10 | 0x25 => some 1
  | 0x3A => some 0
  | 0x50 => some 0 | 0x51 => some 0 | 0x52 => some 3 | 0x53 => some 1
  | 0x60 => some 1 | 0x61 => some 1 | 0x62 => some 2
  | _ => none

/-- The code in a command byte (R170: bits 6-0). -/
def commandCode (b : Byte) : Nat := b.toNat % 128

/-- The form in a command byte (R170: bit 7 set is the reporting form). -/
def commandReporting (b : Byte) : Bool := b.getLsbD 7

/-- The command byte of a code in a form. -/
def commandByte (reporting : Bool) (code : Byte) : Byte := if reporting then code ||| 0x80 else code

/-- The bytes the game processor writes for a main-bus command: the command byte for the command port,
then its parameters for the data port (R170, R171, R183). None for a row that is no main-bus command. -/
def Instr.busBytes (i : Instr) : Option (Byte × List Byte) :=
  match i with
  | .select r t x a => some (commandByte r 0x01, [t, x, Half.hi a, Half.lo a])
  | .entry r d => some (commandByte r 0x02, [d])
  | .statusClear r => some (commandByte r 0x03, [])
  | .openTxn r n z m => some (commandByte r 0x10, [n, z, m])
  | .commit r => some (commandByte r 0x11, [])
  | .abort r => some (commandByte r 0x12, [])
  | .erase r n => some (commandByte r 0x13, [n])
  | .verify r n => some (commandByte r 0x14, [n])
  | .hold (.game r) m => some (commandByte r 0x15, [m])
  | .release (.game r) => some (commandByte r 0x16, [])
  | .clockSet (.game r) y mo d h mi s => some (commandByte r 0x20, [y, mo, d, h, mi, s])
  | .dayStart r h m => some (commandByte r 0x21, [h, m])
  | .catchUpLimit r v => some (commandByte r 0x22, [Half.hi v, Half.lo v])
  | .rebase r v => some (commandByte r 0x23, [Half.hi v, Half.lo v])
  | .alarmArm (.game r) e k c a b1 b2 b3 b4 b5 b6 => some (commandByte r 0x24, [e, k, c, a, b1, b2, b3, b4, b5, b6])
  | .alarmDisarm (.game r) e => some (commandByte r 0x25, [e])
  | .voiceSet r v c st lp f => some (commandByte r 0x30, [v, c, st, lp, f])
  | .voiceStart r m => some (commandByte r 0x31, [m])
  | .voiceStop r m => some (commandByte r 0x32, [m])
  | .voicePitch r v d t => some (commandByte r 0x33, [v, Half.hi d, Half.lo d, t])
  | .voiceLevel r v l d e => some (commandByte r 0x34, [v, l, d, e])
  | .waveLayout r l => some (commandByte r 0x35, [l])
  | .ringSet r m => some (commandByte r 0x36, [m])
  | .ringFlush r => some (commandByte r 0x37, [])
  | .mixSet r v m e => some (commandByte r 0x38, [v, m, e])
  | .clipClear r => some (commandByte r 0x39, [])
  | .silence (.game r) => some (commandByte r 0x3A, [])
  | .rumbleDirect r l => some (commandByte r 0x40, [l])
  | .rumblePattern r p n => some (commandByte r 0x41, [p, n])
  | .rumbleLink r v => some (commandByte r 0x42, [v])
  | .rumbleStop r => some (commandByte r 0x43, [])
  | .rumbleLimit r l => some (commandByte r 0x44, [l])
  | .eventAck (.game r) => some (commandByte r 0x50, [])
  | .eventAckLost (.game r) => some (commandByte r 0x51, [])
  | .eventMask (.game r) m1 m2 m3 => some (commandByte r 0x52, [m1, m2, m3])
  | .lineEnable (.game r) e => some (commandByte r 0x53, [e])
  | .battery (.game r) b => some (commandByte r 0x60, [b])
  | .powerMode (.game r) m => some (commandByte r 0x61, [m])
  | _ => none

/-- The bytes the system controller clocks in for a side-link request: the request byte, then its
parameters (R179, R180, R183). None for a row that is no request of the side link. -/
def Instr.linkBytes (i : Instr) : Option (List Byte) :=
  match i with
  | .hold .system m => some [0x15, m]
  | .release .system => some [0x16]
  | .slotRead n o c => some [0x17, n, Half.hi o, Half.lo o, c]
  | .clockSet .system y mo d h mi s => some [0x20, y, mo, d, h, mi, s]
  | .alarmArm .system e k c a b1 b2 b3 b4 b5 b6 => some [0x24, e, k, c, a, b1, b2, b3, b4, b5, b6]
  | .alarmDisarm .system e => some [0x25, e]
  | .silence .system => some [0x3A]
  | .eventAck .system => some [0x50]
  | .eventAckLost .system => some [0x51]
  | .eventMask .system m1 m2 m3 => some [0x52, m1, m2, m3]
  | .lineEnable .system e => some [0x53, e]
  | .battery .system b => some [0x60, b]
  | .powerMode .system m => some [0x61, m]
  | .readRecord r x => some [0x62, r, x]
  | _ => none

/-- The main-bus command that a command byte and its parameters spell (R170, R171, R183). -/
def decodeBus (b : Byte) (ps : List Byte) : Option Instr :=
  let r := commandReporting b
  match commandCode b, ps with
  | 0x01, [t, x, ah, al] => some (.select r t x (halfOf ah al))
  | 0x02, [d] => some (.entry r d)
  | 0x03, [] => some (.statusClear r)
  | 0x10, [n, z, m] => some (.openTxn r n z m)
  | 0x11, [] => some (.commit r)
  | 0x12, [] => some (.abort r)
  | 0x13, [n] => some (.erase r n)
  | 0x14, [n] => some (.verify r n)
  | 0x15, [m] => some (.hold (.game r) m)
  | 0x16, [] => some (.release (.game r))
  | 0x20, [y, mo, d, h, mi, s] => some (.clockSet (.game r) y mo d h mi s)
  | 0x21, [h, m] => some (.dayStart r h m)
  | 0x22, [vh, vl] => some (.catchUpLimit r (halfOf vh vl))
  | 0x23, [vh, vl] => some (.rebase r (halfOf vh vl))
  | 0x24, [e, k, c, a, b1, b2, b3, b4, b5, b6] => some (.alarmArm (.game r) e k c a b1 b2 b3 b4 b5 b6)
  | 0x25, [e] => some (.alarmDisarm (.game r) e)
  | 0x30, [v, c, st, lp, f] => some (.voiceSet r v c st lp f)
  | 0x31, [m] => some (.voiceStart r m)
  | 0x32, [m] => some (.voiceStop r m)
  | 0x33, [v, dh, dl, t] => some (.voicePitch r v (halfOf dh dl) t)
  | 0x34, [v, l, d, e] => some (.voiceLevel r v l d e)
  | 0x35, [l] => some (.waveLayout r l)
  | 0x36, [m] => some (.ringSet r m)
  | 0x37, [] => some (.ringFlush r)
  | 0x38, [v, m, e] => some (.mixSet r v m e)
  | 0x39, [] => some (.clipClear r)
  | 0x3A, [] => some (.silence (.game r))
  | 0x40, [l] => some (.rumbleDirect r l)
  | 0x41, [p, n] => some (.rumblePattern r p n)
  | 0x42, [v] => some (.rumbleLink r v)
  | 0x43, [] => some (.rumbleStop r)
  | 0x44, [l] => some (.rumbleLimit r l)
  | 0x50, [] => some (.eventAck (.game r))
  | 0x51, [] => some (.eventAckLost (.game r))
  | 0x52, [m1, m2, m3] => some (.eventMask (.game r) m1 m2 m3)
  | 0x53, [e] => some (.lineEnable (.game r) e)
  | 0x60, [s] => some (.battery (.game r) s)
  | 0x61, [m] => some (.powerMode (.game r) m)
  | _, _ => none

/-- The side-link request that a frame's bytes spell (R179, R180, R183). -/
def decodeLink (bytes : List Byte) : Option Instr :=
  match bytes with
  | [] => none
  | b :: ps =>
    match b.toNat, ps with
    | 0x15, [m] => some (.hold .system m)
    | 0x16, [] => some (.release .system)
    | 0x17, [n, oh, ol, c] => some (.slotRead n (halfOf oh ol) c)
    | 0x20, [y, mo, d, h, mi, s] => some (.clockSet .system y mo d h mi s)
    | 0x24, [e, k, c, a, b1, b2, b3, b4, b5, b6] => some (.alarmArm .system e k c a b1 b2 b3 b4 b5 b6)
    | 0x25, [e] => some (.alarmDisarm .system e)
    | 0x3A, [] => some (.silence .system)
    | 0x50, [] => some (.eventAck .system)
    | 0x51, [] => some (.eventAckLost .system)
    | 0x52, [m1, m2, m3] => some (.eventMask .system m1 m2 m3)
    | 0x53, [e] => some (.lineEnable .system e)
    | 0x60, [s] => some (.battery .system s)
    | 0x61, [m] => some (.powerMode .system m)
    | 0x62, [r, x] => some (.readRecord r x)
    | _, _ => none

/-- The command a word of the opcode table spells: none, since no row of the table gives bits. -/
def decodeTableWord (_nbits _w : Nat) : Option Instr := none

end Sys2Proof
end

