-- ==== Sys2Proof/Config.lean ====
section
/-! DEFINITION. The fixed sizes of the part and the two conventions for memory that nothing has written. The spec leaves no result of a command open, so there is no free value here. -/

namespace Sys2Proof.Config

/-- R1: 64 pages. -/
abbrev pageCount : Nat := 64
/-- R1: 512 bytes in a page. -/
abbrev pageSize : Nat := 512
/-- R111: 2048 bytes in the ring. -/
abbrev ringSize : Nat := 2048
/-- R102: 256 bytes of user waveform memory. -/
abbrev waveSize : Nat := 256
/-- R140: 128 bytes of pattern memory. -/
abbrev patternSize : Nat := 128

/-- What a page byte that nothing has written since the cell reset reads as. R19 does not define it and
says that no master can observe it. DESIGN CHOICE, unsafe (notes/assumptions/12.md). -/
abbrev unwrittenPage : Byte := 0xFF
/-- What a ring byte that nothing has written since the reset reads as. R112 and R124 do not define it and
say that it is not observable. DESIGN CHOICE, unsafe (notes/assumptions/13.md). -/
abbrev unwrittenRing : Byte := 0x00
/-- What an unlisted waveform or pattern byte reads as: its value after power-up and bus reset (R110, R155). -/
abbrev unwrittenZero : Byte := 0x00

end Sys2Proof.Config
end

