-- ==== Sys2Proof/Machine/State.lean ====
section
/-! DEFINITION. The state of the part as plain data: one record per block of 00_scope's block table, the queue of waiting commands, and the state after reset. -/

namespace Sys2Proof.Machine

/-- The reasons a command stops the machine with a fault: there are none. Every command of the part has an
effect in every state; a refused command is an outcome code with its reports (R172, R180), after which the
part goes on. Nobody raises a fault, so no run is ended by one (safe). -/
inductive Fault where
  deriving DecidableEq, Repr

/-- The reasons a command is refused by the MODEL (a refusal of the part is an `OutcomeCode`). -/
inductive Refusal where
  /-- raised only by an arm of exec that has no meaning yet; safe, as the run stops -/
  | notModelled (mnemonic : String)
  deriving DecidableEq, Repr

/-- A memory: (address, byte) cells in rising order of address, none equal to what an unlisted address
reads as (`Memory.wf`). -/
abbrev Memory := List Host.Cell

/-- The two masters (00_scope, 'The two masters'). -/
inductive Master where
  | game | system
  deriving DecidableEq, Repr

/-- The outcome codes (00_scope, 'Outcome codes'), in the order of their numbers 0-12. -/
inductive OutcomeCode where
  | ok | clamped | busy | held | privilege | readOnly | noSuch | range | state | full | lowPower
  | incomplete | pending
  deriving DecidableEq, Repr

/-! ### Supply Monitor -/

/-- R185. -/
inductive PowerState where
  | off | active | sleep
  deriving DecidableEq, Repr

/-- R185, R187. -/
inductive BatteryState where
  | good | low | critical
  deriving DecidableEq, Repr

/-- The retention indicator (R188). -/
inductive Retention where
  | kept | lost
  deriving DecidableEq, Repr

/-- A calendar date: year 0-99 for 2000-2099, month 1-12, day of the month (R47). -/
structure Date where
  year : Nat
  month : Nat
  day : Nat
  deriving DecidableEq, Repr

/-- A date and time of day (R47). -/
structure DateTime where
  date : Date
  hour : Nat
  minute : Nat
  second : Nat
  deriving DecidableEq, Repr

/-- The wake note (R189); `none` is absent. -/
structure WakeNote where
  afterCellReset : Bool
  daysElapsed : Nat
  powerDownDay : Option Nat
  powerDownDate : Option Date
  missed : List (Fin 8 × Nat)
  deriving DecidableEq, Repr

/-! ### Save Store and Transaction Unit -/

/-- A page number (R1). -/
abbrev Page := Fin 64
/-- A slot number (R2). -/
abbrev SlotNo := Fin 8

/-- The fields a slot record holds when it is LIVE or DAMAGED (R2). The size is the length of `pages`. -/
structure SlotData where
  damaged : Bool
  pages : List Page
  generation : BitVec 16
  stampDay : Nat
  stampDate : Option Date
  check : BitVec 16
  deriving DecidableEq, Repr

/-- The kinds of store note that carry a slot and no generation (R18). -/
inductive EndKind where
  | aborted | rolledBackReset | droppedByHold | lostPower
  deriving DecidableEq, Repr

/-- The store note (R18). -/
inductive StoreNote where
  | none
  | committed (slot : SlotNo) (generation : BitVec 16)
  | ended (kind : EndKind) (slot : SlotNo)
  deriving DecidableEq, Repr

/-- R24, R26. -/
inductive FillMode where
  | plain | copy
  deriving DecidableEq, Repr

/-- The state of a transaction that is not NONE, with the fields only that state has (R22): walk progress
in FILLING and SEALING, suspended in OPEN (it is 'no' in the others). -/
inductive TxnPhase where
  | filling (progress : Nat)
  | opened (suspended : Bool)
  | sealing (progress : Nat)
  deriving DecidableEq, Repr

/-- The transaction record when it is not NONE (R22). The size is the length of `staging`. -/
structure Txn where
  phase : TxnPhase
  slot : SlotNo
  staging : List Page
  mode : FillMode
  deriving DecidableEq, Repr

/-- R37. -/
inductive HoldMode where
  | keep | drop
  deriving DecidableEq, Repr

/-- The hold record (R37). -/
inductive HoldRecord where
  | notHeld
  | pending (mode : HoldMode)
  | held (mode : HoldMode)
  deriving DecidableEq, Repr

/-- The walk record (R8): its kind, the slot, the pages done, and the sums A and B of a check or VERIFY walk. -/
inductive WalkRecord where
  | none
  | fill (slot : SlotNo) (done : Nat)
  | check (slot : SlotNo) (done a b : Nat)
  | verify (slot : SlotNo) (done a b : Nat)
  deriving DecidableEq, Repr

/-! ### Calendar and Alarm Table -/

/-- R48. -/
inductive CalendarState where
  | invalid | running
  deriving DecidableEq, Repr

/-- The clock record (R47): date and time of day, and the weekday, Sunday = 0. -/
structure ClockRecord where
  now : DateTime
  weekday : Nat
  deriving DecidableEq, Repr

/-- The game-day record (R61). -/
structure GameDayRecord where
  day : Nat
  debt : Nat
  startHour : Nat
  startMinute : Nat
  catchUp : Nat
  deriving DecidableEq, Repr

/-- R60. -/
inductive SettingKind where
  | none | first | forward | backward | same
  deriving DecidableEq, Repr

/-- The setting record (R60). -/
structure SettingRecord where
  kind : SettingKind
  found : Nat
  applied : Nat
  advanced : Nat
  debtAdded : Nat
  deriving DecidableEq, Repr

/-- R73, repeat of a REAL entry. -/
inductive RealRepeat where
  | none | daily | weekly
  deriving DecidableEq, Repr

/-- Kind, due and repeat of an alarm entry (R73). `every` is the repeat code of a GAME entry, 0 for NONE;
`reload` the reload value of a COUNTDOWN entry that repeats. -/
inductive AlarmDue where
  | real (due : DateTime) (rep : RealRepeat)
  | game (day : Nat) (every : Nat)
  | countdown (left : Nat) (reload : Option Nat)
  deriving DecidableEq, Repr

/-- The states of an alarm entry that is not FREE (R73). -/
inductive AlarmState where
  | armed | spent
  deriving DecidableEq, Repr

/-- An alarm entry that is not FREE (R73). -/
structure AlarmEntry where
  state : AlarmState
  owner : Master
  due : AlarmDue
  action : Option (Fin 4)
  missed : Nat
  late : Bool
  deriving DecidableEq, Repr

/-! ### Main bus port and side link -/

/-- The record ids of R178, in the order of their numbers 0-13. -/
inductive RecordId where
  | clock | gameDay | slot | pool | transaction | storeNote | wakeNote | alarm | stream | voice | rumble
  | eventHead | power | mixer
  deriving DecidableEq, Repr

/-- The selected target (R169): the slot number for SLOT; record, index and copy for INFO. -/
inductive Target where
  | none | wave | ring | stage
  | slot (n : SlotNo)
  | pattern
  | info (record : RecordId) (index : Byte) (copy : List Byte)
  deriving DecidableEq, Repr

/-- A pending command (R169): command byte (its code and form), parameters received, number needed. -/
structure PendingCommand where
  byte : Byte
  received : List Byte
  needed : Nat
  deriving DecidableEq, Repr

/-- The port record (R169). -/
structure PortRecord where
  command : Option PendingCommand
  target : Target
  counter : Nat
  descending : Bool
  latch : Byte
  outcome : OutcomeCode
  summary : Bool
  deriving DecidableEq, Repr

/-- The frame in progress on the side link (R179). -/
inductive SideFrame where
  /-- SLSEL is released -/
  | idle
  /-- SLSEL is asserted and the request is not taken: the bytes clocked in so far, and the bits, most significant
  first, of a byte that is not whole yet -/
  | receiving (bytes : List Byte) (bits : List Bool)
  /-- the request of this frame has been taken: the part drives SLD with the reply, and later bits are ignored -/
  | taken (reply : List Byte)
  deriving DecidableEq, Repr

/-- The side link: the frame, the side slot-read counter (R43), and the bits the system controller has sampled
from SLD since the request was taken. While the frame lasts their number is how far the reply has been clocked out
(R179); after its release they are a record of what was read (notes/assumptions/24.md). -/
structure SideLink where
  frame : SideFrame
  slotRead : Nat
  sampled : List Bool
  deriving DecidableEq, Repr

/-! ### Voice Engine, Waveform Memory, Stream Ring, Mixer -/

/-- R91. -/
inductive VoiceState where
  | stopped | playing | paused
  deriving DecidableEq, Repr

/-- The divider of a voice (R90, R92, R93). -/
structure Divider where
  d : Nat
  detune : Byte
  effective : Nat
  countdown : Nat
  deriving DecidableEq, Repr

/-- R90, R96. -/
inductive EnvelopeDirection where
  | none | up | down
  deriving DecidableEq, Repr

/-- Volume and envelope of a voice (R90, R96). -/
structure Envelope where
  volume : Nat
  direction : EnvelopeDirection
  period : Nat
  count : Nat
  deriving DecidableEq, Repr

/-- The record of a table voice (R90). -/
structure TableVoice where
  state : VoiceState
  code : Nat
  start : Nat
  loopPosition : Nat
  loop : Bool
  stopAtZero : Bool
  position : Nat
  divider : Divider
  envelope : Envelope
  sample : Byte
  deriving DecidableEq, Repr

/-- The record of voice 5: the fields R90 marks for it. Its state is the stream state. -/
structure StreamVoice where
  divider : Divider
  envelope : Envelope
  deriving DecidableEq, Repr

/-- R102. -/
inductive Layout where
  | short | long
  deriving DecidableEq, Repr

/-- The stream states that run in ACTIVE (R113); a paused stream records one of them. -/
inductive StreamRun where
  | priming | playing | starved
  deriving DecidableEq, Repr

/-- The stream state with the state before pause (R111, R113). -/
inductive StreamState where
  | idle
  | run (r : StreamRun)
  | paused (before : StreamRun)
  deriving DecidableEq, Repr

/-- The ring record without the ring's bytes (R111). -/
structure RingRecord where
  fill : Nat
  play : Nat
  level : Nat
  lowMark : Nat
  overrun : Nat
  state : StreamState
  held : Byte
  deriving DecidableEq, Repr

/-- R129. -/
inductive Rounding where
  | floor | nearest
  deriving DecidableEq, Repr

/-- The mixer record (R125). -/
structure MixerRecord where
  master : Nat
  rounding : Rounding
  enabled : Bool
  clip : Bool
  me : Nat
  dac : Nat
  deriving DecidableEq, Repr

/-! ### Rumble Driver and Event Unit -/

/-- The rumble mode with the fields only that mode has (R139). -/
inductive RumbleMode where
  | off
  | direct (level : Nat)
  | pattern (pattern : Fin 4) (repeats position level timeLeft : Nat)
  | linked (voice : Fin 6)
  deriving DecidableEq, Repr

/-- The rumble record (R139); `rest` holds the rest time left while RESTING. -/
structure RumbleRecord where
  mode : RumbleMode
  level : Nat
  runCounter : Nat
  runLimit : Nat
  rest : Option Nat
  deriving DecidableEq, Repr

/-- The event kinds (R156), in the order of their numbers 0-17. -/
inductive EventKind where
  | voiceEnd | starve | ringLow | clip | fillDone | commitDone | commitFail | verifyBad | hold | dayTurn
  | alarm | clockSet | rumbleEnd | rumbleCut | battery | refused | clamped | wake
  deriving DecidableEq, Repr

/-- A queue entry (R157). -/
structure EventEntry where
  kind : EventKind
  detail : Byte
  count : Nat
  deriving DecidableEq, Repr

/-- The event record of one master (R157): bit k of the lost set and of the mask stands for kind k. -/
structure EventRecord where
  queue : List EventEntry
  lost : BitVec 18
  mask : BitVec 18
  lineEnable : Bool
  deriving DecidableEq, Repr

/-! ### Values after resets -/

/-- R169, 'After power-up and bus reset'. -/
def PortRecord.initial : PortRecord :=
  { command := .none, target := .none, counter := 0, descending := false, latch := 0x00,
    outcome := .ok, summary := false }

/-- R46, R179: no frame, the side slot-read counter 0, nothing sampled (notes/assumptions/24.md). -/
def SideLink.initial : SideLink := { frame := .idle, slotRead := 0, sampled := [] }

/-- R110. -/
def Divider.initial : Divider := { d := 2047, detune := 0x00, effective := 2047, countdown := 2047 }

/-- R110. -/
def Envelope.initial : Envelope := { volume := 0, direction := .none, period := 0, count := 0 }

/-- R110. -/
def TableVoice.initial : TableVoice :=
  { state := .stopped, code := 0, start := 0, loopPosition := 0, loop := false, stopAtZero := false,
    position := 0, divider := .initial, envelope := .initial, sample := 0x00 }

/-- R110. -/
def StreamVoice.initial : StreamVoice := { divider := .initial, envelope := .initial }

/-- R124. -/
def RingRecord.initial : RingRecord :=
  { fill := 0, play := 0, level := 0, lowMark := 512, overrun := 0, state := .idle, held := 0x00 }

/-- R138. -/
def MixerRecord.initial : MixerRecord :=
  { master := 0, rounding := .floor, enabled := false, clip := false, me := 0, dac := 512 }

/-- R155. -/
def RumbleRecord.initial : RumbleRecord :=
  { mode := .off, level := 0, runCounter := 0, runLimit := 1024, rest := .none }

/-- R168. -/
def EventRecord.initial : EventRecord := { queue := [], lost := 0, mask := 0, lineEnable := false }

/-- R71: 2000-01-01 00:00:00, a Saturday. -/
def ClockRecord.initial : ClockRecord :=
  { now := { date := { year := 0, month := 1, day := 1 }, hour := 0, minute := 0, second := 0 }, weekday := 6 }

/-- R61, 'After cell reset'. -/
def GameDayRecord.initial : GameDayRecord :=
  { day := 0, debt := 0, startHour := 0, startMinute := 0, catchUp := 30 }

/-- R60, after a cell reset. -/
def SettingRecord.initial : SettingRecord :=
  { kind := .none, found := 0, applied := 0, advanced := 0, debtAdded := 0 }

/-- R189, column 'Start after a cell reset'. -/
def WakeNote.afterReset : WakeNote :=
  { afterCellReset := true, daysElapsed := 0, powerDownDay := .none, powerDownDate := .none, missed := [] }

/-- The state of the part. While the power state is OFF the main-domain records hold their power-up values,
which nothing reads (notes/assumptions/7.md). -/
structure State where
  /-- the commands that wait, first in, first out -/
  pending : List Instr
  -- Supply Monitor
  power : PowerState
  battery : BatteryState
  retention : Retention
  wake : WakeNote
  resetPin : Bool
  -- Save Store
  pages : Memory
  slots : Vector (Option SlotData) 8
  pool : List Page
  note : StoreNote
  walk : WalkRecord
  -- Transaction Unit
  txn : Option Txn
  hold : HoldRecord
  -- Calendar
  /-- the frames of the present second: the count that divides the crystal (R49) -/
  crystal : Nat
  calendar : CalendarState
  clock : ClockRecord
  gameDay : GameDayRecord
  setting : SettingRecord
  -- Alarm Table
  alarms : Vector (Option AlarmEntry) 8
  -- Main bus port and side link
  port : PortRecord
  busData : Byte
  side : SideLink
  -- Voice Engine and Waveform Memory
  voices : Vector TableVoice 5
  voice5 : StreamVoice
  waveMem : Memory
  layout : Layout
  -- Stream Ring and Mixer
  ringMem : Memory
  ring : RingRecord
  mixer : MixerRecord
  -- Rumble Driver
  rumble : RumbleRecord
  patternMem : Memory
  /-- the level of the present MOTOR period, and the frame the period stands at (R143) -/
  motor : Nat
  motorFrame : Nat
  -- Event Unit
  gameEvents : EventRecord
  systemEvents : EventRecord
  deriving DecidableEq, Repr

/-- The state right after reset: the part just after the start-up sequence of R190 that follows a cell
reset (R188), so that every field has the value the spec states for power-up or for the cell reset, and
WAKE with detail 1 stands in both queues (notes/assumptions/1.md). -/
def State.reset : State where
  pending := []
  power := .active
  battery := .good
  retention := .kept
  wake := .afterReset
  resetPin := false
  pages := []
  slots := Vector.replicate 8 .none
  pool := List.finRange 64
  note := .none
  walk := .none
  txn := .none
  hold := .notHeld
  crystal := 0
  calendar := .invalid
  clock := .initial
  gameDay := .initial
  setting := .initial
  alarms := Vector.replicate 8 .none
  port := .initial
  busData := 0x00
  side := .initial
  voices := Vector.replicate 5 .initial
  voice5 := .initial
  waveMem := []
  layout := .short
  ringMem := []
  ring := .initial
  mixer := .initial
  rumble := .initial
  patternMem := []
  motor := 0
  motorFrame := 0
  gameEvents := { EventRecord.initial with queue := [{ kind := .wake, detail := 1, count := 1 }] }
  systemEvents := { EventRecord.initial with queue := [{ kind := .wake, detail := 1, count := 1 }] }

end Sys2Proof.Machine
end

