-- ==== Sys2Proof/Machine/Memory.lean ====
section
/-! DEFINITION. Reading and writing one byte of a memory, the canonical form, and the bytes of pages. -/

namespace Sys2Proof.Machine

/-- The byte at address `a`; `u` is what an unlisted address reads as. -/
def Memory.read (u : Byte) (m : Memory) (a : Nat) : Byte :=
  match m with
  | [] => u
  | (k, b) :: rest => if k = a then b else Memory.read u rest a

/-- The cell for `a` replaced or put in its place. -/
def Memory.insert (a : Nat) (b : Byte) (m : Memory) : Memory :=
  match m with
  | [] => [(a, b)]
  | (k, c) :: rest =>
    if a < k then (a, b) :: (k, c) :: rest
    else if a = k then (a, b) :: rest
    else (k, c) :: Memory.insert a b rest

/-- The cell for `a` taken out. -/
def Memory.erase (a : Nat) (m : Memory) : Memory :=
  match m with
  | [] => []
  | (k, c) :: rest => if k = a then rest else (k, c) :: Memory.erase a rest

/-- The byte at address `a` becomes `b`. -/
def Memory.write (u : Byte) (m : Memory) (a : Nat) (b : Byte) : Memory :=
  if b = u then Memory.erase a m else Memory.insert a b m

/-- Addresses strictly rising. -/
def Memory.rising (m : Memory) : Bool :=
  match m with
  | [] => true
  | [_] => true
  | x :: y :: rest => decide (x.1 < y.1) && Memory.rising (y :: rest)

/-- The canonical form: addresses strictly rising, all below `size`, no cell equal to the unlisted byte. -/
def Memory.wf (u : Byte) (size : Nat) (m : Memory) : Bool :=
  Memory.rising m && m.all (fun c => decide (c.1 < size) && decide (c.2 ≠ u))

/-- The address of byte `o` of page `p` in the memory of pages (R1). -/
def pageAddress (p : Page) (o : Nat) : Nat := p.val * Config.pageSize + o % Config.pageSize

/-- Byte `o` of page `p` (R1). -/
def pageByte (m : Memory) (p : Page) (o : Nat) : Byte :=
  Memory.read Config.unwrittenPage m (pageAddress p o)

/-- Byte `o` of the data a page list names: byte (o mod 512) of the page at position ⌊o / 512⌋ (R14, R28). -/
def listByte (m : Memory) (ps : List Page) (o : Nat) : Byte :=
  match ps[o / Config.pageSize]? with
  | some p => pageByte m p (o % Config.pageSize)
  | none => Config.unwrittenPage

/-- Byte `o` of the data a page list names becomes `b` (R29). -/
def writeListByte (m : Memory) (ps : List Page) (o : Nat) (b : Byte) : Memory :=
  match ps[o / Config.pageSize]? with
  | some p => Memory.write Config.unwrittenPage m (pageAddress p o) b
  | none => m

/-- The first `n` bytes of page `p` become the values of `f`. -/
def fillPage (f : Nat → Byte) (p : Page) (m : Memory) (n : Nat) : Memory :=
  match n with
  | 0 => m
  | k + 1 => Memory.write Config.unwrittenPage (fillPage f p m k) (pageAddress p k) (f k)

/-- One byte taken into the sums A and B (R7). -/
def sumByte (ab : Nat × Nat) (b : Byte) : Nat × Nat :=
  let a := (ab.1 + b.toNat) % 255
  (a, (ab.2 + a) % 255)

/-- The bytes of page `p` taken into the sums, from byte 0 to byte 511 (R7). -/
def sumPage (m : Memory) (ab : Nat × Nat) (p : Page) : Nat × Nat :=
  (List.range Config.pageSize).foldl (fun ab o => sumByte ab (pageByte m p o)) ab

/-- The check B × 256 + A (R7). -/
def checkValue (ab : Nat × Nat) : BitVec 16 := BitVec.ofNat 16 (ab.2 * 256 + ab.1)

end Sys2Proof.Machine
end

