-- ==== Sys2Proof/Machine/Flags.lean ====
section
/-! DEFINITION. Outcome codes, posts to the event queues, pending kinds and alert lines, the status byte. -/

namespace Sys2Proof.Machine

/-- The outcome's number (00_scope, 'Outcome codes'). -/
def OutcomeCode.code (o : OutcomeCode) : Byte :=
  match o with
  | .ok => 0 | .clamped => 1 | .busy => 2 | .held => 3 | .privilege => 4 | .readOnly => 5 | .noSuch => 6
  | .range => 7 | .state => 8 | .full => 9 | .lowPower => 10 | .incomplete => 11 | .pending => 12

/-- Codes 2-11 are refusals (R172). -/
def OutcomeCode.isRefusal (o : OutcomeCode) : Bool := decide (2 ≤ o.code.toNat ∧ o.code.toNat ≤ 11)

/-- The kind's number (R156). -/
def EventKind.number (k : EventKind) : Nat :=
  match k with
  | .voiceEnd => 0 | .starve => 1 | .ringLow => 2 | .clip => 3 | .fillDone => 4 | .commitDone => 5
  | .commitFail => 6 | .verifyBad => 7 | .hold => 8 | .dayTurn => 9 | .alarm => 10 | .clockSet => 11
  | .rumbleEnd => 12 | .rumbleCut => 13 | .battery => 14 | .refused => 15 | .clamped => 16 | .wake => 17

/-- The flag of a kind in a set of kinds (R184). -/
def EventKind.flag (k : EventKind) : BitVec 18 := 1#18 <<< k.number

/-- The entry of kind `k` and detail `d` absorbs a post: its repeat count rises by 1, to at most 15 (R158). -/
def coalesce (k : EventKind) (d : Byte) (q : List EventEntry) : List EventEntry :=
  q.map fun e => if e.kind = k ∧ e.detail = d then { e with count := min (e.count + 1) 15 } else e

/-- A post of kind `k` with detail `d`, by the first case of R158's table that applies. -/
def EventRecord.post (r : EventRecord) (k : EventKind) (d : Byte) : EventRecord :=
  if r.queue.any (fun e => decide (e.kind = k ∧ e.detail = d)) then { r with queue := coalesce k d r.queue }
  else if r.queue.length < 8 then { r with queue := r.queue ++ [{ kind := k, detail := d, count := 1 }] }
  else { r with lost := r.lost ||| k.flag }

/-- The kinds pending for a master: those in its queue or its lost set (R160). -/
def EventRecord.pendingKinds (r : EventRecord) : BitVec 18 :=
  r.queue.foldl (fun acc e => acc ||| e.kind.flag) r.lost

/-- The level of the alert line: asserted exactly when the line enable is set and some pending kind is
unmasked (R160). -/
def EventRecord.line (r : EventRecord) : Bool :=
  r.lineEnable && (r.pendingKinds &&& ~~~r.mask != 0)

/-- A post to the game queue. While the power state is OFF there is no queue to reach (R158, R168). -/
def postGame (k : EventKind) (d : Byte) (s : State) : State :=
  if s.power = .off then s else { s with gameEvents := s.gameEvents.post k d }

/-- A post to the system queue (R158, R168). -/
def postSystem (k : EventKind) (d : Byte) (s : State) : State :=
  if s.power = .off then s else { s with systemEvents := s.systemEvents.post k d }

/-- A kind routed to both is two posts, one to each queue (R156). -/
def postBoth (k : EventKind) (d : Byte) (s : State) : State := postSystem k d (postGame k d s)

/-- A post to the queue of one master. -/
def postTo (m : Master) (k : EventKind) (d : Byte) (s : State) : State :=
  match m with
  | .game => postGame k d s
  | .system => postSystem k d s

/-- A walk is in flight (R8). -/
def walkInFlight (s : State) : Bool := decide (s.walk ≠ .none)

/-- The store is held (R37). -/
def storeHeld (s : State) : Bool :=
  match s.hold with
  | .held _ => true
  | _ => false

/-- The status byte a read of the command port returns (R173). Reading it changes nothing and has no row in
the table. -/
def statusByte (s : State) : Byte :=
  (if walkInFlight s then 0x80#8 else 0#8) ||| (if storeHeld s then 0x40#8 else 0#8)
    ||| (if s.gameEvents.line then 0x20#8 else 0#8) ||| (if s.port.summary then 0x10#8 else 0#8)
    ||| s.port.outcome.code

end Sys2Proof.Machine
end

