-- ==== Sys2Proof/Machine/Operands.lean ====
section
/-! DEFINITION. Parameter bytes read as the numbers the commands name: slots, voices, entries, patterns, clamped quantities, dates and instants. -/

namespace Sys2Proof.Machine

/-- A number below `n`, or none (the NO-SUCH checks). -/
def indexBelow (n : Nat) (b : Byte) : Option (Fin n) :=
  if h : b.toNat < n then some ⟨b.toNat, h⟩ else none

/-- A two-valued parameter: 00h and 01h, anything else is refused RANGE by its command. -/
def flagOf (b : Byte) : Option Bool :=
  if b = 0x00 then some false else if b = 0x01 then some true else none

/-- Bit `v` of a mask byte. -/
def maskBit (mask : Byte) (v : Nat) : Bool := mask.getLsbD v

/-- The bits of a byte in the order of the serial link: most significant first (R179). -/
def bitsOf (b : Byte) : List Bool := (List.range 8).map fun k => b.getLsbD (7 - k)

/-- The byte of bits that come most significant first (R179). -/
def byteOfBits (bits : List Bool) : Byte := BitVec.ofNat 8 (bits.foldl (fun n b => 2 * n + b.toNat) 0)

/-! ### Calendar arithmetic (R47, R48) -/

/-- R47: a year is a leap year when divisible by 4. -/
def isLeap (year : Nat) : Bool := year % 4 == 0

/-- R47, the table of month lengths. -/
def monthLength (year month : Nat) : Nat :=
  match month with
  | 1 => 31 | 2 => if isLeap year then 29 else 28 | 3 => 31 | 4 => 30 | 5 => 31 | 6 => 30
  | 7 => 31 | 8 => 31 | 9 => 30 | 10 => 31 | 11 => 30 | 12 => 31
  | _ => 0

/-- Days from 2000-01-01 to the first day of a year. -/
def daysBeforeYear (year : Nat) : Nat := year * 365 + (year + 3) / 4

/-- Days in a year before the first day of a month. -/
def daysBeforeMonth (year month : Nat) : Nat :=
  match month with
  | 0 => 0
  | m + 1 => daysBeforeMonth year m + monthLength year m

/-- Days from 2000-01-01 to a date (the N of R47). -/
def dayNumber (d : Date) : Nat := daysBeforeYear d.year + daysBeforeMonth d.year d.month + (d.day - 1)

/-- The weekday of a date: (6 + N) mod 7 (R47). -/
def weekdayOf (d : Date) : Nat := (6 + dayNumber d) % 7

/-- The number of days of the calendar's range, 2000 to 2099 (R48). -/
abbrev rangeDays : Nat := 36525

/-- The number of seconds of the calendar's range (R48): one more than the last instant. -/
abbrev rangeSeconds : Nat := 3155760000

/-- Seconds since midnight. -/
def secondOfDay (t : DateTime) : Nat := t.hour * 3600 + t.minute * 60 + t.second

/-- The instant count of R48. -/
def instant (t : DateTime) : Nat := dayNumber t.date * 86400 + secondOfDay t

/-- The month and day that lie `days` days after the first day of month `month`, trying at most `fuel` months. -/
def monthAndDay (year fuel month days : Nat) : Nat × Nat :=
  match fuel with
  | 0 => (month, days + 1)
  | f + 1 =>
    if days < monthLength year month then (month, days + 1)
    else monthAndDay year f (month + 1) (days - monthLength year month)

/-- The year of a day number: four-year cycles of 1461 days, the leap year first. -/
def yearOfDay (n : Nat) : Nat :=
  n / 1461 * 4 + (if n % 1461 < 366 then 0 else (n % 1461 - 366) / 365 + 1)

/-- The date of a day number. -/
def dateOfDay (n : Nat) : Date :=
  let y := yearOfDay n
  let md := monthAndDay y 11 1 (n - daysBeforeYear y)
  { year := y, month := md.1, day := md.2 }

/-- An existing date of the calendar (the limits of R54). -/
def Date.valid (d : Date) : Bool :=
  decide (d.year ≤ 99 ∧ 1 ≤ d.month ∧ d.month ≤ 12 ∧ 1 ≤ d.day ∧ d.day ≤ monthLength d.year d.month)

/-- An existing date and time (the limits of R54). -/
def DateTime.valid (t : DateTime) : Bool :=
  t.date.valid && decide (t.hour ≤ 23 ∧ t.minute ≤ 59 ∧ t.second ≤ 59)

/-- Six bytes as a date and time (R54, R76). -/
def dateTimeOf (year month day hour minute second : Byte) : DateTime :=
  { date := { year := year.toNat, month := month.toNat, day := day.toNat },
    hour := hour.toNat, minute := minute.toNat, second := second.toNat }

/-- The date after a date, with the wrap of R51 after 2099-12-31. -/
def nextDate (d : Date) : Date :=
  if d.day < monthLength d.year d.month then { d with day := d.day + 1 }
  else if d.month < 12 then { d with month := d.month + 1, day := 1 }
  else if d.year < 99 then { year := d.year + 1, month := 1, day := 1 }
  else { year := 0, month := 1, day := 1 }

end Sys2Proof.Machine
end

