-- ==== Sys2Proof/Machine/Ops.lean ====
section
/-! DEFINITION. What every command shares: how a port takes a command, how its outcome is reported, how the address counter moves. -/

namespace Sys2Proof.Machine

/-- What a command does when it is taken: the state it leaves and its outcome. -/
abbrev Result := State × OutcomeCode

/-- What a request of the side link does when taken: the state, the outcome, and the reply's data. -/
abbrev LinkResult := State × OutcomeCode × List Byte

/-- The main bus port takes strobes: the main supply is present and RESET is not asserted (R190, R192). -/
def busAlive (s : State) : Bool := decide (s.power ≠ .off) && !s.resetPin

/-- A refusal on the main bus sets the summary and posts REFUSED to the game queue (R172). -/
def noteRefusal (o : OutcomeCode) (s : State) : State :=
  postGame .refused o.code { s with port.summary := true }

/-- The report of a main-bus command's outcome (R172): the outcome field in reporting form; a refusal's
summary and REFUSED; CLAMPED with the command code as its detail. -/
def report (reporting : Bool) (code : Byte) (r : Result) : State :=
  let s := if reporting then { r.1 with port.outcome := r.2 } else r.1
  if r.2.isRefusal then noteRefusal r.2 s
  else if r.2 = .clamped then postGame .clamped code s
  else s

/-- A pending command discarded by a new command byte: INCOMPLETE is reported in its own form (R170, R172). -/
def abandonCommand (s : State) : State :=
  match s.port.command with
  | none => s
  | some c =>
    report (commandReporting c.byte) (BitVec.ofNat 8 (commandCode c.byte))
      ({ s with port.command := none }, .incomplete)

/-- A main-bus command sent whole: its command byte, which discards a pending command, and its parameters,
at the last of which it is taken (R170, R171). A strobe with RESET asserted or without the main supply is
lost (R192, R69). -/
def runBus (reporting : Bool) (code : Byte) (op : State → Result) (s : State) : State :=
  if busAlive s then report reporting code (op (abandonCommand s)) else s

/-- A refused command that changes nothing. -/
def refuse (o : OutcomeCode) (s : State) : Result := (s, o)

/-- A request whose reply is its outcome alone. -/
def noData (r : Result) : LinkResult := (r.1, r.2, [])

/-- The taking of a request in the frame in progress (R180): the reply begins with the outcome, a refused
request replies with the outcome alone and posts REFUSED to the system queue, and the part drives SLD with the
reply (R179). -/
def takeLink (op : State → LinkResult) (s : State) : State :=
  let r := op s
  let t := { r.1 with side.frame := .taken (r.2.1.code :: (if r.2.1.isRefusal then [] else r.2.2)) }
  if r.2.1.isRefusal then postSystem .refused r.2.1.code t else t

/-- Bit `k` of a reply as it is clocked out: byte after byte, most significant bit first; beyond the end it reads
FFh (R179). -/
def replyBit (reply : List Byte) (k : Nat) : Bool := (reply.getD (k / 8) 0xFF).getLsbD (7 - k % 8)

/-- What the part drives on SLD: the next bit of the reply from the request's taking on; none when SLD is released,
which is before the taking and after the release of SLSEL (R179). -/
def drivenSld (l : SideLink) : Option Bool :=
  match l.frame with
  | .taken reply => some (replyBit reply l.sampled.length)
  | _ => none

/-- A refused data-port access (R172): summary and REFUSED; the outcome field keeps its value. -/
def refuseAccess (o : OutcomeCode) (s : State) : State := noteRefusal o s

/-- A refused data-port read returns FFh (R177). -/
def refuseRead (o : OutcomeCode) (s : State) : State := refuseAccess o { s with busData := 0xFF }

/-- One move of the address counter in the direction of ENTRY, modulo the target's present size: a counter
beyond a size that has shrunk is first reduced (R175). -/
def moveCounter (descending : Bool) (size counter : Nat) : Nat :=
  if descending then (counter % size + (size - 1)) % size else (counter % size + 1) % size

/-- An accepted SELECT: target, counter and latch in one update (R174). -/
def selectTarget (t : Target) (counter : Nat) (latch : Byte) (s : State) : State :=
  { s with port.target := t, port.counter := counter, port.latch := latch }

end Sys2Proof.Machine
end

