-- ==== Sys2Proof/Machine/Waveforms.lean ====
section
/-! DEFINITION. The waveform a code selects: user waveform memory under its layout, and the 24 built-in waveforms (R102, R105, R106). -/

namespace Sys2Proof.Machine

/-- The length of the waveform a code selects (R102). -/
def waveLength (layout : Layout) (code : Nat) : Nat :=
  if code < 8 ∧ layout = .long then 64 else 32

/-- The address in waveform memory of sample `i` of the user waveform a code 0-7 selects (R102). -/
def userAddress (layout : Layout) (code i : Nat) : Nat :=
  match layout with
  | .short => 32 * code + i
  | .long => 64 * (code / 2) + i

/-- The first quarter of the sine, code 19 (R105). -/
def sineQuarter : List Int := [0, 23, 46, 67, 85, 100, 111, 118, 120]

/-- The sine, code 19, by the symmetries R105 gives. -/
def sineSample (i : Nat) : Int :=
  if i ≤ 8 then sineQuarter.getD i 0
  else if i ≤ 16 then sineQuarter.getD (16 - i) 0
  else if i ≤ 24 then -(sineQuarter.getD (i - 16) 0)
  else -(sineQuarter.getD (32 - i) 0)

/-- The generator's value before sample `i` of a noise waveform (R106): the exclusive-or of the two lowest
bits enters at bit 14 as the value is shifted down. -/
def noiseValue (seed : Nat) (i : Nat) : Nat :=
  match i with
  | 0 => seed
  | n + 1 =>
    let x := noiseValue seed n
    x / 2 + ((x % 2 + x / 2 % 2) % 2) * 16384

/-- Sample `i` of the noise waveform of a seed (R106). -/
def noiseSample (seed i : Nat) : Int :=
  let x := noiseValue seed i
  if (x % 2 + x / 2 % 2) % 2 = 1 then 96 else -96

/-- Sample `i` of the full-amplitude waveform of codes 16-19 (R105). -/
def fullSample (code i : Nat) : Int :=
  match code with
  | 16 => if i < 16 then -120 + 16 * (i : Int) else 120 - 16 * ((i : Int) - 16)
  | 17 => -124 + 8 * (i : Int)
  | 18 => 124 - 8 * (i : Int)
  | _ => sineSample i

/-- Sample `i` of the built-in waveform of a code 8-31 (R105, R106). -/
def builtInSample (code i : Nat) : Int :=
  if code < 16 then (if i < 2 * (code - 7) then 96 else -96)
  else if code < 20 then fullSample code i
  else if code < 24 then Int.tdiv (fullSample (code - 4) i) 2
  else noiseSample (code - 23) i

/-- Sample `i` of the waveform a code selects, as a signed byte (R94, R102). -/
def waveSample (s : State) (code i : Nat) : Byte :=
  if code < 8 then Memory.read Config.unwrittenZero s.waveMem (userAddress s.layout code i)
  else BitVec.ofInt 8 (builtInSample code i)

end Sys2Proof.Machine
end

