-- ==== Sys2Proof/Machine/Voices.lean ====
section
/-! DEFINITION. What the Voice Engine does: steps, envelopes, the voice commands, pausing and stopping (R90 to R110). -/

namespace Sys2Proof.Machine

/-- Table voice `v` replaced. -/
def setVoice (v : Fin 5) (x : TableVoice) (s : State) : State :=
  { s with voices := s.voices.set v.val x v.isLt }

/-- Every table voice changed in one update. -/
def mapVoices (f : Fin 5 → TableVoice → TableVoice) (s : State) : State :=
  { s with voices := Vector.ofFn fun v => f v s.voices[v] }

/-- The countdown reloaded from the effective divider (R92, R99). -/
def Divider.reload (d : Divider) : Divider := { d with countdown := d.effective }

/-! ### Steps -/

/-- A step of table voice `v` (R94): the position reduced modulo the present length, then one of the three
cases of the rule's table. -/
def stepVoice (v : Fin 5) (s : State) : State :=
  let x := s.voices[v]
  let len := waveLength s.layout x.code
  let p := x.position % len
  if p < len - 1 then
    setVoice v { x with position := p + 1, sample := waveSample s x.code (p + 1) } s
  else if x.loop then
    setVoice v { x with position := x.loopPosition % len, sample := waveSample s x.code (x.loopPosition % len) } s
  else
    postGame .voiceEnd (BitVec.ofNat 8 v.val)
      (setVoice v { x with position := p, sample := 0x00, state := .stopped } s)

/-- The expiry of a table voice's countdown (R92): while the voice is PLAYING and the countdown has reached 0, it is
reloaded from D' and the voice steps. In any other state no step is taken, and none while the countdown stands above 0:
a command that reloaded it has been taken first (R101; notes/assumptions/15.md). -/
def voiceExpiry (v : Fin 5) (s : State) : State :=
  let x := s.voices[v]
  if x.state = .playing ∧ x.divider.countdown = 0 then stepVoice v (setVoice v { x with divider := x.divider.reload } s)
  else s

/-! ### Envelopes -/

/-- The volume and envelope of voice `v`, 0-5 (R90). -/
def envelopeOf (s : State) (v : Fin 6) : Envelope :=
  if h : v.val < 5 then s.voices[v.val].envelope else s.voice5.envelope

/-- The volume and envelope of voice `v` replaced. -/
def setEnvelope (v : Fin 6) (e : Envelope) (s : State) : State :=
  if h : v.val < 5 then setVoice ⟨v.val, h⟩ { s.voices[v.val] with envelope := e } s
  else { s with voice5.envelope := e }

/-- The stream state is PRIMING, PLAYING or STARVED. -/
def StreamState.running (r : StreamState) : Bool :=
  match r with
  | .run _ => true
  | _ => false

/-- The voice is PLAYING, or for voice 5 the stream is PRIMING, PLAYING or STARVED: its envelope counts
frames and its divider engine clocks (R92, R96, R107). -/
def voiceRuns (s : State) (v : Fin 6) : Bool :=
  if h : v.val < 5 then decide (s.voices[v.val].state = .playing) else s.ring.state.running

/-- The envelope is active (R96). -/
def Envelope.active (e : Envelope) : Bool := decide (0 < e.period ∧ e.direction ≠ .none)

/-- The envelope after a move: the count 0, the volume one up or one down within 0-15 (R96). -/
def Envelope.moved (e : Envelope) : Envelope :=
  match e.direction with
  | .up => { e with count := 0, volume := if e.volume < 15 then e.volume + 1 else e.volume }
  | .down => { e with count := 0, volume := e.volume - 1 }
  | .none => { e with count := 0 }

/-- A DOWN move that leaves a table voice at volume 0 with stop-at-zero on stops it (R96). -/
def stopAtZero (v : Fin 5) (s : State) : State :=
  let x := s.voices[v]
  if x.stopAtZero ∧ x.envelope.direction = .down ∧ x.envelope.volume = 0 then
    postGame .voiceEnd (BitVec.ofNat 8 v.val) (setVoice v { x with state := .stopped, sample := 0x00 } s)
  else s

/-- A move of voice `v`'s envelope (R96). -/
def moveEnvelope (v : Fin 6) (s : State) : State :=
  let t := setEnvelope v (envelopeOf s v).moved s
  if h : v.val < 5 then stopAtZero ⟨v.val, h⟩ t else t

/-- The next frame brings the count to E × 512 (R96). -/
def Envelope.due (e : Envelope) : Bool := decide (e.period * 512 ≤ e.count + 1)

/-- A frame arrival at voice `v`'s envelope (R96): the count rises by one, and at E × 512 a move is made. -/
def envelopeFrame (v : Fin 6) (s : State) : State :=
  let e := envelopeOf s v
  if voiceRuns s v && e.active then
    if e.due then moveEnvelope v s else setEnvelope v { e with count := e.count + 1 } s
  else s

/-- The count of voice `v`'s envelope reaching E × 512 (R96): a move, if the voice runs, the envelope is active and its
count is one frame short of that; after a VOICE LEVEL, which makes the count 0, no move is made at that frame (R101;
notes/assumptions/15.md). -/
def envelopeExpiry (v : Fin 6) (s : State) : State :=
  let e := envelopeOf s v
  if voiceRuns s v && e.active && e.due then moveEnvelope v s else s

/-! ### Commands -/

/-- VOICE SET (R98). -/
def voiceSetOp (voice code start loop flags : Byte) (s : State) : Result :=
  match indexBelow 5 voice with
  | none => refuse .noSuch s
  | some v =>
    if 32 ≤ code.toNat then refuse .noSuch s
    else if 3 < flags.toNat then refuse .range s
    else
      (setVoice v { s.voices[v] with
        code := code.toNat, start := start.toNat, loopPosition := loop.toNat,
        loop := flags.getLsbD 0, stopAtZero := flags.getLsbD 1 } s, .ok)

/-- A table voice restarted by VOICE START (R99). -/
def restartVoice (s : State) (x : TableVoice) : TableVoice :=
  let p := x.start % waveLength s.layout x.code
  { x with
    position := p, sample := waveSample s x.code p, divider := x.divider.reload,
    envelope := { x.envelope with count := 0 },
    state := if s.power = .sleep then .paused else .playing }

/-- The table voices' share of VOICE START: every selected voice restarted in one update (R99). -/
def startVoices (mask : Byte) (s : State) : State :=
  mapVoices (fun v x => if maskBit mask v.val then restartVoice s x else x) s

/-- A table voice STOPPED with current sample 0 (R100, R109). -/
def TableVoice.stop (x : TableVoice) : TableVoice := { x with state := .stopped, sample := 0x00 }

/-- The table voices' share of VOICE STOP (R100). -/
def stopVoices (mask : Byte) (s : State) : State :=
  mapVoices (fun v x => if maskBit mask v.val then x.stop else x) s

/-- The effective divider: D + detune clamped to 0-2047 (R93). -/
def effectiveDivider (d : Nat) (detune : Byte) : Nat := min ((d : Int) + detune.toInt).toNat 2047

/-- The divider VOICE PITCH leaves: D clamped to 2047, the detune as sent, D' from them; the countdown in
flight is kept (R92, R93). -/
def Divider.pitched (x : Divider) (divider : Half) (detune : Byte) : Divider :=
  let d := min divider.toNat 2047
  { x with d := d, detune := detune, effective := effectiveDivider d detune }

/-- One of VOICE PITCH's two clamps changed a value (R93). -/
def pitchClamped (divider : Half) (detune : Byte) : Bool :=
  let d := min divider.toNat 2047
  decide (2047 < divider.toNat ∨ (d : Int) + detune.toInt ≠ (effectiveDivider d detune : Int))

/-- VOICE PITCH (R93). -/
def voicePitchOp (voice : Byte) (divider : Half) (detune : Byte) (s : State) : Result :=
  match indexBelow 6 voice with
  | none => refuse .noSuch s
  | some v =>
    let o := if pitchClamped divider detune then OutcomeCode.clamped else .ok
    if h : v.val < 5 then
      let x := s.voices[v.val]
      (setVoice ⟨v.val, h⟩ { x with divider := x.divider.pitched divider detune } s, o)
    else ({ s with voice5.divider := s.voice5.divider.pitched divider detune }, o)

/-- The direction codes of VOICE LEVEL (R97). -/
def directionOf (b : Byte) : Option EnvelopeDirection :=
  if b = 0x00 then some .none else if b = 0x01 then some .up else if b = 0x02 then some .down else none

/-- VOICE LEVEL (R97). -/
def voiceLevelOp (voice volume direction period : Byte) (s : State) : Result :=
  match indexBelow 6 voice with
  | none => refuse .noSuch s
  | some v =>
    match directionOf direction with
    | none => refuse .range s
    | some dir =>
      (setEnvelope v { volume := min volume.toNat 15, direction := dir, period := min period.toNat 7, count := 0 } s,
        if 15 < volume.toNat ∨ 7 < period.toNat then .clamped else .ok)

/-- WAVE LAYOUT (R104). -/
def waveLayoutOp (layout : Byte) (s : State) : Result :=
  match flagOf layout with
  | none => refuse .range s
  | some false => ({ s with layout := .short }, .ok)
  | some true => ({ s with layout := .long }, .ok)

/-! ### Power states and resets -/

/-- PLAYING table voices become PAUSED when the power state becomes SLEEP (R108). -/
def pauseVoices (s : State) : State :=
  mapVoices (fun _ x => if x.state = .playing then { x with state := .paused } else x) s

/-- PAUSED table voices become PLAYING when the power state becomes ACTIVE (R108). -/
def resumeVoices (s : State) : State :=
  mapVoices (fun _ x => if x.state = .paused then { x with state := .playing } else x) s

/-- Every table voice STOPPED, by SILENCE (R109). -/
def silenceVoices (s : State) : State := mapVoices (fun _ x => x.stop) s

/-- The Voice Engine and Waveform Memory at their values after power-up and bus reset (R110). -/
def resetVoices (s : State) : State :=
  { s with voices := Vector.replicate 5 .initial, voice5 := .initial, waveMem := [], layout := .short }

end Sys2Proof.Machine
end

