-- ==== Sys2Proof/Machine/Ring.lean ====
section
/-! DEFINITION. What the Stream Ring does: writes, stream steps, starts, stops, flushes (R111 to R124), and the engine clock of the six voices (R92). -/

namespace Sys2Proof.Machine

/-- The state a start or a write leads to with fill level `f`: PLAYING from 256 bytes on (R115, R118). -/
def primedAt (f : Nat) : StreamRun := if 256 ≤ f then .playing else .priming

/-- A write that brings F to 256 makes PRIMING and STARVED into PLAYING (R115). -/
def StreamRun.filledTo (r : StreamRun) (f : Nat) : StreamRun := if f = 256 then .playing else r

/-- The stream state after a write that leaves F at `f`: in PAUSED the state before pause changes (R115). -/
def StreamState.filledTo (r : StreamState) (f : Nat) : StreamState :=
  match r with
  | .idle => .idle
  | .run x => .run (x.filledTo f)
  | .paused x => .paused (x.filledTo f)

/-- A data-port write with RING selected (R115): stored at the fill position, or dropped with the overrun
count raised when F is 2048. -/
def ringWrite (b : Byte) (s : State) : State :=
  let r := s.ring
  if r.level < Config.ringSize then
    { s with
      ringMem := Memory.write Config.unwrittenRing s.ringMem r.fill b
      ring := { r with fill := (r.fill + 1) % Config.ringSize, level := r.level + 1, state := r.state.filledTo (r.level + 1) } }
  else { s with ring.overrun := min (r.overrun + 1) 255 }

/-- A step of voice 5 handed to the ring (R116): only a PLAYING stream takes a byte or starves. -/
def streamStep (s : State) : State :=
  let r := s.ring
  if r.state = .run .playing then
    if r.level = 0 then postGame .starve 5 { s with ring.state := .run .starved }
    else
      let t := { s with ring := { r with
        held := Memory.read Config.unwrittenRing s.ringMem r.play
        play := (r.play + 1) % Config.ringSize, level := r.level - 1 } }
      if r.lowMark ≤ r.level ∧ r.level - 1 < r.lowMark then postGame .ringLow 5 t else t
  else s

/-- The expiry of voice 5's countdown (R92): while the stream is PRIMING, PLAYING or STARVED and the countdown has
reached 0, it is reloaded from D' and the step is handed to the ring (notes/assumptions/15.md). -/
def streamExpiry (s : State) : State :=
  if s.ring.state.running ∧ s.voice5.divider.countdown = 0 then
    streamStep { s with voice5.divider := s.voice5.divider.reload }
  else s

/-- Voice 5's share of VOICE START (R99, R118). -/
def startStream (s : State) : State :=
  let x := primedAt s.ring.level
  { s with
    voice5 := { divider := s.voice5.divider.reload, envelope := { s.voice5.envelope with count := 0 } }
    ring := { s.ring with
      held := if s.ring.state = .idle then 0x00 else s.ring.held
      state := if s.power = .sleep then .paused x else .run x } }

/-- Voice 5's share of VOICE STOP (R119). -/
def stopStream (s : State) : State := { s with ring := { s.ring with state := .idle, held := 0x00 } }

/-- VOICE START (R99, R118): every selected voice restarted; bits 6 and 7 are ignored. -/
def voiceStartOp (mask : Byte) (s : State) : Result :=
  let t := startVoices mask s
  (if maskBit mask 5 then startStream t else t, .ok)

/-- VOICE STOP (R100, R119). -/
def voiceStopOp (mask : Byte) (s : State) : Result :=
  let t := stopVoices mask s
  (if maskBit mask 5 then stopStream t else t, .ok)

/-- A PLAYING or STARVED stream becomes PRIMING at a flush (R120). -/
def StreamState.flushed (r : StreamState) : StreamState :=
  match r with
  | .idle => .idle
  | .run _ => .run .priming
  | .paused _ => .paused .priming

/-- The unplayed bytes discarded and the overrun count cleared (R120, R122). -/
def RingRecord.flush (r : RingRecord) : RingRecord := { r with play := r.fill, level := 0, overrun := 0 }

/-- RING FLUSH (R120). -/
def ringFlushOp (s : State) : Result :=
  ({ s with ring := { s.ring.flush with state := s.ring.state.flushed } }, .ok)

/-- RING SET (R117): M is 64 times the value, clamped to 31. -/
def ringSetOp (mark : Byte) (s : State) : Result :=
  ({ s with ring.lowMark := 64 * min mark.toNat 31 }, if 31 < mark.toNat then .clamped else .ok)

/-- SILENCE's share in the ring (R122). -/
def silenceStream (s : State) : State :=
  { s with ring := { s.ring.flush with state := .idle, held := 0x00 } }

/-- A running stream is paused when the power state becomes SLEEP (R121). -/
def pauseStream (s : State) : State :=
  match s.ring.state with
  | .run x => { s with ring.state := .paused x }
  | _ => s

/-- A paused stream takes its state before pause when the power state becomes ACTIVE (R121). -/
def resumeStream (s : State) : State :=
  match s.ring.state with
  | .paused x => { s with ring.state := .run x }
  | _ => s

/-- The ring record after power-up and bus reset (R124). -/
def resetRing (s : State) : State := { s with ring := .initial, ringMem := [] }

/-- One engine clock at table voice `v` (R92): a countdown at 0 expires, another falls by 1. -/
def voiceClock (s : State) (v : Fin 5) : State :=
  let x := s.voices[v]
  if x.state = .playing then
    if x.divider.countdown = 0 then voiceExpiry v s
    else setVoice v { x with divider := { x.divider with countdown := x.divider.countdown - 1 } } s
  else s

/-- One engine clock at voice 5 (R92, R107). -/
def streamClock (s : State) : State :=
  if s.ring.state.running then
    if s.voice5.divider.countdown = 0 then streamExpiry s
    else { s with voice5.divider := { s.voice5.divider with countdown := s.voice5.divider.countdown - 1 } }
  else s

/-- One engine clock (R92): it counts at every voice, in the order of their numbers
(notes/assumptions/2.md, notes/assumptions/18.md). -/
def engineClock (s : State) : State := streamClock ((List.finRange 5).foldl voiceClock s)

end Sys2Proof.Machine
end

