-- ==== Sys2Proof/Machine/Mixer.lean ====
section
/-! DEFINITION. The frame computation, the clip flag, the mixer commands (R125 to R138), and a frame arrival at voices and Mixer. -/

namespace Sys2Proof.Machine

/-- The mixer's cap on Me (R128, R187). -/
def BatteryState.volumeCap (b : BatteryState) : Nat :=
  match b with
  | .good => 63 | .low => 40 | .critical => 0

/-- The sample the Mixer takes from a table voice: 0 when it is STOPPED (R95, R127). -/
def TableVoice.mixSample (x : TableVoice) : Int := if x.state = .stopped then 0 else x.sample.toInt

/-- Voice 5's sample: the held sample, 0 while the stream is IDLE (R107, R127). -/
def streamMixSample (r : RingRecord) : Int := if r.state = .idle then 0 else r.held.toInt

/-- Stages 1 to 3: the sum A of the six products sample × volume (R127). -/
def voiceSum (s : State) : Int :=
  (List.finRange 5).foldl (fun acc v => acc + s.voices[v].mixSample * (s.voices[v].envelope.volume : Int)) 0
    + streamMixSample s.ring * (s.voice5.envelope.volume : Int)

/-- Stage 4: the effective master volume (R128). -/
def effectiveMaster (s : State) : Nat := min s.mixer.master s.battery.volumeCap

/-- Stages 5 and 6: the rounded value C of A × Me; ⌊ ⌋ is toward minus infinity (R129). -/
def roundedMix (mode : Rounding) (b : Int) : Int :=
  match mode with
  | .floor => b / 512
  | .nearest => (b + 256) / 512

/-- Stage 7: C saturated to -512..511 (R130). -/
def saturate (c : Int) : Int := max (-512) (min c 511)

/-- The value C of a computed frame. -/
def frameValue (s : State) : Int := roundedMix s.mixer.rounding (voiceSum s * (effectiveMaster s : Int))

/-- A frame at the Mixer (R126): computed in ACTIVE with the output enabled, else held at 512 (R132). A
clamping frame with the clip flag clear sets it and posts CLIP (R131). -/
def mixFrame (s : State) : State :=
  if s.power = .active ∧ s.mixer.enabled then
    let c := frameValue s
    let t := { s with mixer := { s.mixer with me := effectiveMaster s, dac := (saturate c + 512).toNat } }
    if saturate c ≠ c ∧ s.mixer.clip = false then postGame .clip 0 { t with mixer.clip := true } else t
  else { s with mixer.dac := 512 }

/-- The envelopes of the voices whose bit in `who` is `b` take a frame, in the order of their numbers (R96). -/
def envelopeFrames (who : BitVec 6) (b : Bool) (s : State) : State :=
  (List.finRange 6).foldl (fun t v => if who.getLsbD v.val = b then envelopeFrame v t else t) s

/-- The MOTOR period has ended with the frame that is counted now (R143). -/
def periodEnds (s : State) : Bool := decide (14 ≤ s.motorFrame)

/-- A frame passes on the crystal's count (R49), and in the MOTOR period,
which runs in every power state with a main supply: its fifteenth frame ends it, and the next takes up the effective
level (R143). The second arrival is an arrival of its own (notes/assumptions/27.md). R188 stops the
crystal's count while the supply is below 1.5 V; DESIGN CHOICE, unsafe: it stays stopped as long as the indicator is LOST, also
after a new cell is fitted while OFF, a case R188 leaves open (notes/assumptions/11.md). -/
def countFrame (s : State) : State :=
  { s with
    crystal := if s.retention = .lost then s.crystal else (s.crystal + 1) % 32768
    motor := if s.power ≠ .off ∧ periodEnds s then s.rumble.level else s.motor
    motorFrame := if s.power = .off then s.motorFrame else if periodEnds s then 0 else s.motorFrame + 1 }

/-- A frame arrival (R96, R126): at the envelopes named first, at the Mixer, at the other envelopes. While
the main supply is absent only the crystal's count goes on. -/
def frameArrivalOp (first : BitVec 6) (s : State) : State :=
  if s.power = .off then countFrame s
  else envelopeFrames first false (mixFrame (envelopeFrames first true (countFrame s)))

/-- MIX SET (R133); disabling the output brings the DAC code to 512 at once (R132). -/
def mixSetOp (volume rounding enable : Byte) (s : State) : Result :=
  match flagOf rounding, flagOf enable with
  | some nearest, some on =>
    ({ s with mixer := { s.mixer with
        master := min volume.toNat 63, rounding := if nearest then .nearest else .floor, enabled := on
        dac := if on then s.mixer.dac else 512 } },
      if 63 < volume.toNat then .clamped else .ok)
  | _, _ => refuse .range s

/-- CLIP CLEAR (R134). -/
def clipClearOp (s : State) : Result := ({ s with mixer.clip := false }, .ok)

/-- The DAC code becomes 512 when the power state becomes SLEEP (R136). -/
def holdDac (s : State) : State := { s with mixer.dac := 512 }

/-- The mixer record after power-up and bus reset (R138). -/
def resetMixer (s : State) : State := { s with mixer := .initial }

end Sys2Proof.Machine
end

