-- ==== Sys2Proof/Machine/Rumble.lean ====
section
/-! DEFINITION. What the Rumble Driver does: the effective level, pattern sequencing, run counter and rest, its commands (R139 to R155). -/

namespace Sys2Proof.Machine

/-- The rumble cap (R142, R187). -/
def BatteryState.rumbleCap (b : BatteryState) : Nat :=
  match b with
  | .good => 15 | .low => 8 | .critical => 0

/-- The level a LINKED driver takes from its voice (R142). -/
def linkedLevel (s : State) (v : Fin 6) : Nat :=
  if h : v.val < 5 then (if s.voices[v.val].state = .playing then s.voices[v.val].envelope.volume else 0)
  else (if s.ring.state = .run .playing then s.voice5.envelope.volume else 0)

/-- The mode level (R142). -/
def modeLevel (s : State) : Nat :=
  match s.rumble.mode with
  | .off => 0
  | .direct l => l
  | .pattern _ _ _ l _ => l
  | .linked v => linkedLevel s v

/-- The effective level of R142. -/
def effectiveLevel (s : State) : Nat :=
  if s.power = .active ∧ s.rumble.rest = none then min (modeLevel s) s.battery.rumbleCap else 0

/-- The effective level formed anew (R142). -/
def formLevel (s : State) : State := { s with rumble.level := effectiveLevel s }

/-- The level byte of step `k` of a pattern (R140). -/
def stepLevelByte (s : State) (p : Fin 4) (k : Nat) : Byte :=
  Memory.read Config.unwrittenZero s.patternMem (32 * p.val + 2 * k)

/-- The duration of step `k` of a pattern (R140). -/
def stepDuration (s : State) (p : Fin 4) (k : Nat) : Nat :=
  (Memory.read Config.unwrittenZero s.patternMem (32 * p.val + 2 * k + 1)).toNat

/-- Step `k` loaded: level the lesser of its byte and 15, time left its duration (R140, R147). -/
def loadStep (p : Fin 4) (repeats k : Nat) (s : State) : State :=
  { s with rumble.mode := .pattern p repeats k (min (stepLevelByte s p k).toNat 15) (stepDuration s p k) }

/-- The pattern ends: mode OFF and RUMBLE_END (R146, R147). -/
def endPattern (p : Fin 4) (s : State) : State :=
  postGame .rumbleEnd (BitVec.ofNat 8 p.val) { s with rumble.mode := .off }

/-- Step 0 loaded, or an empty pattern's end (R146, R147). -/
def loadFirst (p : Fin 4) (repeats : Nat) (s : State) : State :=
  if stepDuration s p 0 = 0 then endPattern p s else loadStep p repeats 0 s

/-- A start of pattern `p`, by RUMBLE PATTERN or by an alarm action (R146, R152). -/
def startPattern (p : Fin 4) (repeats : Nat) (s : State) : State := formLevel (loadFirst p repeats s)

/-- The end of step `k` of a playing pattern (R147): the next step, another pass, or the end. -/
def nextStep (p : Fin 4) (repeats k : Nat) (s : State) : State :=
  if k < 15 ∧ stepDuration s p (k + 1) ≠ 0 then loadStep p repeats (k + 1) s
  else if repeats = 0 then loadFirst p 0 s
  else if repeats = 1 then endPattern p s
  else loadFirst p (repeats - 1) s

/-- The pattern's share of a tick (R147). -/
def sequencePattern (s : State) : State :=
  match s.rumble.mode with
  | .pattern p n k l t => if t ≤ 1 then nextStep p n k s else { s with rumble.mode := .pattern p n k l (t - 1) }
  | _ => s

/-- A rest begins with the run counter at `c` (R149). -/
def beginRest (c : Nat) (s : State) : State :=
  postGame .rumbleCut 0 { s with rumble.runCounter := c, rumble.rest := some 128 }

/-- A rest ends (R149). -/
def endRest (s : State) : State := { s with rumble.rest := none, rumble.runCounter := 0 }

/-- The run accounting of a tick, by the effective level before it (R148). -/
def runAccounting (s : State) : State :=
  match s.rumble.rest with
  | some t => if t ≤ 1 then endRest s else { s with rumble.rest := some (t - 1) }
  | none =>
    if 0 < s.rumble.level then
      if s.rumble.runLimit ≤ s.rumble.runCounter + 1 then beginRest (s.rumble.runCounter + 1) s
      else { s with rumble.runCounter := s.rumble.runCounter + 1 }
    else { s with rumble.runCounter := s.rumble.runCounter - 1 }

/-- A tick (R147, R148): in ACTIVE the run accounting, the sequencing, the effective level; else nothing (R153). -/
def tickOp (s : State) : State :=
  if s.power = .active then formLevel (sequencePattern (runAccounting s)) else s

/-- The step time left reaching 0 (R147), as an arrival of its own: a step with more than one tick left goes on, so a
pattern started just before has lost nothing (R154; notes/assumptions/15.md). -/
def patternStepEndOp (s : State) : State :=
  if s.power = .active then
    match s.rumble.mode with
    | .pattern p n k _ t => if t ≤ 1 then formLevel (nextStep p n k s) else s
    | _ => s
  else s

/-- The run counter reaching the run limit (R149), as an arrival of its own: the driver is driven, not RESTING, and one
tick short of the limit or above it (notes/assumptions/15.md). -/
def restBeginOp (s : State) : State :=
  if s.power = .active ∧ s.rumble.rest = none ∧ 0 < s.rumble.level ∧ s.rumble.runLimit ≤ s.rumble.runCounter + 1 then
    formLevel (beginRest (s.rumble.runCounter + 1) s)
  else s

/-- The rest time left reaching 0 (R149), as an arrival of its own: a rest with more than one tick left goes on
(notes/assumptions/15.md). -/
def restEndOp (s : State) : State :=
  match s.rumble.rest with
  | some t => if s.power = .active ∧ t ≤ 1 then formLevel (endRest s) else s
  | none => s

/-- The start of a MOTOR period (R143), as an arrival of its own: a period whose fifteenth frame has not come goes on
(notes/assumptions/15.md). -/
def motorPeriodOp (s : State) : State :=
  if s.power ≠ .off ∧ periodEnds s then { s with motor := s.rumble.level, motorFrame := 0 } else s

/-- The MOTOR pin (R143): high for the first L frames of the present period of 15. -/
def motorHigh (s : State) : Bool := decide (s.motorFrame < s.motor)

/-- RUMBLE DIRECT (R144). -/
def rumbleDirectOp (level : Byte) (s : State) : Result :=
  (formLevel { s with rumble.mode := .direct (min level.toNat 15) }, if 15 < level.toNat then .clamped else .ok)

/-- RUMBLE STOP (R144). -/
def rumbleStopOp (s : State) : Result := (formLevel { s with rumble.mode := .off }, .ok)

/-- A rumble command refused at its taking: it changes nothing, and the effective level is formed, as it is whenever a
rumble command is taken (R142; 00_scope 'Taken', R182). -/
def refuseRumble (o : OutcomeCode) (s : State) : Result := refuse o (formLevel s)

/-- RUMBLE LINK (R145). -/
def rumbleLinkOp (voice : Byte) (s : State) : Result :=
  match indexBelow 6 voice with
  | none => refuseRumble .noSuch s
  | some v => (formLevel { s with rumble.mode := .linked v }, .ok)

/-- RUMBLE PATTERN (R146). -/
def rumblePatternOp (pattern repeats : Byte) (s : State) : Result :=
  match indexBelow 4 pattern with
  | none => refuseRumble .noSuch s
  | some p => if 15 < repeats.toNat then refuseRumble .range s else (startPattern p repeats.toNat s, .ok)

/-- RUMBLE LIMIT (R150): the value clamped to 1-60 seconds of 128 ticks. -/
def rumbleLimitOp (seconds : Byte) (s : State) : Result :=
  (formLevel { s with rumble.runLimit := 128 * max 1 (min seconds.toNat 60) },
    if seconds.toNat = 0 ∨ 60 < seconds.toNat then .clamped else .ok)

/-- SILENCE's share in the driver (R153): mode OFF, the effective level 0. -/
def silenceRumble (s : State) : State := formLevel { s with rumble.mode := .off }

/-- The Rumble Driver after power-up and bus reset (R155); a bus reset stops a running motor. -/
def resetRumble (s : State) : State := { s with rumble := .initial, patternMem := [], motor := 0 }

end Sys2Proof.Machine
end

