-- ==== Sys2Proof/Machine/Alarms.lean ====
section
/-! DEFINITION. What the Alarm Table does: the due list, arming and disarming, firing and repetition (R73 to R89). -/

namespace Sys2Proof.Machine

/-- Alarm entry `e` replaced. -/
def setAlarm (e : Fin 8) (x : Option AlarmEntry) (s : State) : State :=
  { s with alarms := s.alarms.set e.val x e.isLt }

/-! ### The due list -/

/-- Seconds from the present clock time forward to a due, across the wrap (R79). DESIGN CHOICE, unsafe: a due equal to
the present time is at distance 0, so its entry is first of its run (notes/assumptions/31.md). -/
def forwardDistance (now due : DateTime) : Nat := (instant due + rangeSeconds - instant now) % rangeSeconds

/-- The place of an ARMED entry in due order as one number (R79): its run (GAME, REAL, COUNTDOWN), then the
key of the run, then the entry number. -/
def dueKey (now : DateTime) (e : Fin 8) (due : AlarmDue) : Nat :=
  match due with
  | .game d _ => d * 8 + e.val
  | .real t _ => 2 ^ 40 + forwardDistance now t * 8 + e.val
  | .countdown n _ => 2 ^ 41 + n * 8 + e.val

/-- A keyed entry put into its place. -/
def insertDue (x : Nat × Fin 8) (l : List (Nat × Fin 8)) : List (Nat × Fin 8) :=
  match l with
  | [] => [x]
  | y :: rest => if x.1 ≤ y.1 then x :: y :: rest else y :: insertDue x rest

/-- The key of entry `e`, if it is ARMED. -/
def armedKey (s : State) (e : Fin 8) : Option (Nat × Fin 8) :=
  match s.alarms[e] with
  | some a => if a.state = .armed then some (dueKey s.clock.now e a.due, e) else none
  | none => none

/-- The due list (R79): exactly the ARMED entries, in due order. -/
def dueList (s : State) : List (Fin 8) :=
  (((List.finRange 8).filterMap (armedKey s)).foldr insertDue []).map Prod.snd

/-- The entry's position in the due list, if it is ARMED (R79). -/
def duePosition (s : State) (e : Fin 8) : Option Nat := (dueList s).findIdx? (· == e)

/-- The entries of the due list whose due meets a test, in due-list order. -/
def dueWhere (test : AlarmDue → Bool) (s : State) : List (Fin 8) :=
  (dueList s).filter fun e =>
    match s.alarms[e] with
    | some a => test a.due
    | none => false

/-! ### Firing -/

/-- The first date, as a day number, on which a time of day comes strictly after now (R84). -/
def nextDayFor (now due : DateTime) : Nat :=
  if secondOfDay now < secondOfDay due then dayNumber now.date else dayNumber now.date + 1

/-- The due a DAILY entry is given when it fires at `now` (R84). -/
def nextDaily (now due : DateTime) : DateTime := { due with date := dateOfDay (nextDayFor now due % rangeDays) }

/-- The due a WEEKLY entry is given: the first such date with the weekday of the due that fired, each date's
weekday as the clock record gives it, across the wrap (R84). -/
def nextWeekly (now due : DateTime) : DateTime :=
  let day := nextDayFor now due
  let k := ((List.range 14).find? fun k => (6 + (day + k) % rangeDays) % 7 == weekdayOf due.date).getD 0
  { due with date := dateOfDay ((day + k) % rangeDays) }

/-- State and due after a fire (R84, R85). -/
def reschedule (now : DateTime) (day : Nat) (due : AlarmDue) : AlarmState × AlarmDue :=
  match due with
  | .real t .none => (.spent, .real t .none)
  | .real t .daily => (.armed, .real (nextDaily now t) .daily)
  | .real t .weekly => (.armed, .real (nextWeekly now t) .weekly)
  | .game d every =>
    if every = 0 then (.spent, .game d every)
    else
      let last := d + (day - d) / every * every
      if last + every ≤ 65535 then (.armed, .game (last + every) every) else (.spent, .game last every)
  | .countdown _ none => (.spent, .countdown 0 none)
  | .countdown _ (some r) => (.armed, .countdown r (some r))

/-- Late at a fire (R83). -/
def lateAt (now : DateTime) (day : Nat) (due : AlarmDue) : Bool :=
  match due with
  | .real t _ => decide (instant t < instant now)
  | .game d _ => decide (d < day)
  | .countdown _ _ => false

/-- The entry after a fire (R83, R84, R85). -/
def AlarmEntry.fired (a : AlarmEntry) (power : PowerState) (now : DateTime) (day : Nat) : AlarmEntry :=
  let r := reschedule now day a.due
  { a with
    state := r.1, due := r.2, late := lateAt now day a.due
    missed := if power = .off then min (a.missed + 1) 15 else a.missed }

/-- The action of a fire: performed in ACTIVE alone (R83, R152). -/
def performAction (a : AlarmEntry) (s : State) : State :=
  match a.action with
  | some p => if s.power = .active then startPattern p 1 s else s
  | none => s

/-- A fire of entry `e` (R83 to R85): ALARM to the owner's queue, the action, then the entry's new fields. -/
def fireAlarm (s : State) (e : Fin 8) : State :=
  match s.alarms[e] with
  | none => s
  | some a =>
    setAlarm e (some (a.fired s.power s.clock.now s.gameDay.day))
      (performAction a (postTo a.owner .alarm (BitVec.ofNat 8 e.val) s))

/-- Several entries fire at one event, in the order given. -/
def fireAll (es : List (Fin 8)) (s : State) : State := es.foldl fireAlarm s

/-- A GAME due that the game day has reached (R80). -/
def AlarmDue.gameReached (day : Nat) (d : AlarmDue) : Bool :=
  match d with
  | .game n _ => decide (n ≤ day)
  | _ => false

/-- A REAL due whose instant meets a test. -/
def AlarmDue.realWhere (test : Nat → Bool) (d : AlarmDue) : Bool :=
  match d with
  | .real t _ => test (instant t)
  | _ => false

/-- The Alarm Table takes a new game day (R80). -/
def takeGameDay (s : State) : State := fireAll (dueWhere (AlarmDue.gameReached s.gameDay.day) s) s

/-- The Alarm Table takes the new time of a second arrival (R81). -/
def takeTime (s : State) : State :=
  fireAll (dueWhere (AlarmDue.realWhere (· == instant s.clock.now)) s) s

/-- An ARMED COUNTDOWN entry's due falls by one (R82). -/
def AlarmEntry.counted (a : AlarmEntry) : AlarmEntry :=
  match a.state, a.due with
  | .armed, .countdown n r => { a with due := .countdown (n - 1) r }
  | _, _ => a

/-- A COUNTDOWN due at 0. -/
def AlarmDue.countedOut (d : AlarmDue) : Bool :=
  match d with
  | .countdown n _ => n == 0
  | _ => false

/-- The Alarm Table takes a second arrival (R82): every COUNTDOWN falls by one, and those at 0 fire. -/
def takeSecond (s : State) : State :=
  let t := { s with alarms := Vector.ofFn fun e => s.alarms[e].map AlarmEntry.counted }
  fireAll (dueWhere AlarmDue.countedOut t) t

/-- The seconds of COUNTDOWN entry `e` reaching 0 (R82), as an arrival of its own: an entry with more than one second
left goes on, so one armed just before has lost nothing (R87; notes/assumptions/15.md). The Alarm Table is stopped while the
indicator is LOST: DESIGN CHOICE, unsafe, for a cell refitted while OFF, which R188 leaves open (notes/assumptions/11.md). -/
def countdownExpiryOp (e : Fin 8) (s : State) : State :=
  if s.retention = .lost then s
  else
    match s.alarms[e] with
    | some a =>
      match a.state, a.due with
      | .armed, .countdown n r => if n ≤ 1 then fireAlarm (setAlarm e (some { a with due := .countdown 0 r }) s) e else s
      | _, _ => s
    | none => s

/-! ### Arming and disarming -/

/-- The entry is not FREE and belongs to the other master (R75). -/
def ownedByOther (m : Master) (x : Option AlarmEntry) : Bool :=
  match x with
  | some a => decide (a.owner ≠ m)
  | none => false

/-- REAL repeat codes (R76). -/
def realRepeatOf (b : Byte) : RealRepeat :=
  if b = 0x01 then .daily else if b = 0x02 then .weekly else .none

/-- Kind, due and repeat from ALARM ARM's parameters (R76), once its checks have passed. -/
def armedDue (kind rep b1 b2 b3 b4 b5 b6 : Byte) : AlarmDue :=
  if kind = 0x00 then .real (dateTimeOf b1 b2 b3 b4 b5 b6) (realRepeatOf rep)
  else if kind = 0x01 then .game (halfOf b1 b2).toNat rep.toNat
  else .countdown (halfOf b1 b2).toNat (if rep = 0x01 then some (halfOf b3 b4).toNat else none)

/-- A newly armed entry is due already (R77). -/
def dueAlready (s : State) (due : AlarmDue) : Bool :=
  match due with
  | .real t _ => decide (s.calendar = .running ∧ instant t ≤ instant s.clock.now)
  | .game d _ => decide (d ≤ s.gameDay.day)
  | .countdown _ _ => false

/-- An entry armed and examined once against the present (R77). -/
def armEntry (m : Master) (e : Fin 8) (due : AlarmDue) (action : Option (Fin 4)) (s : State) : State :=
  let t := setAlarm e (some { state := .armed, owner := m, due := due, action := action, missed := 0, late := false }) s
  if dueAlready s due then fireAlarm t e else t

/-- ALARM ARM (R76, R77), judged against the master that issued it. -/
def alarmArmOp (m : Master) (entry kind rep action b1 b2 b3 b4 b5 b6 : Byte) (s : State) : Result :=
  match indexBelow 8 entry with
  | none => refuse .noSuch s
  | some e =>
    if ownedByOther m s.alarms[e] then refuse .privilege s
    else if 2 < kind.toNat then refuse .range s
    else if (kind = 0x00 ∧ 2 < rep.toNat) ∨ (kind = 0x02 ∧ 1 < rep.toNat) then refuse .range s
    else if 4 ≤ action.toNat ∧ action.toNat ≤ 0xFE then refuse .noSuch s
    else if kind = 0x00 ∧ (dateTimeOf b1 b2 b3 b4 b5 b6).valid = false then refuse .range s
    else if kind = 0x02 ∧ ((halfOf b1 b2).toNat = 0 ∨ (rep = 0x01 ∧ (halfOf b3 b4).toNat = 0)) then refuse .range s
    else (armEntry m e (armedDue kind rep b1 b2 b3 b4 b5 b6) (indexBelow 4 action) s, .ok)

/-- ALARM DISARM (R78), judged against the master that issued it. -/
def alarmDisarmOp (m : Master) (entry : Byte) (s : State) : Result :=
  match indexBelow 8 entry with
  | none => refuse .noSuch s
  | some e => if ownedByOther m s.alarms[e] then refuse .privilege s else (setAlarm e none s, .ok)

/-! ### Resets and the wake note -/

/-- All eight entries FREE (R89). -/
def freeAlarms (s : State) : State := { s with alarms := Vector.replicate 8 none }

/-- The entries whose missed count is above 0, in entry order, with their counts (R189). -/
def missedList (s : State) : List (Fin 8 × Nat) :=
  (List.finRange 8).filterMap fun e =>
    match s.alarms[e] with
    | some a => if 0 < a.missed then some (e, a.missed) else none
    | none => none

/-- Every missed count set to 0 (R189). -/
def clearMissed (s : State) : State :=
  { s with alarms := Vector.ofFn fun e => s.alarms[e].map fun a => { a with missed := 0 } }

end Sys2Proof.Machine
end

