-- ==== Sys2Proof/Machine/Calendar.lean ====
section
/-! DEFINITION. What the Calendar does: second arrivals, turns, clock settings and the commands of the game-day record (R47 to R72). -/

namespace Sys2Proof.Machine

/-! ### Turns -/

/-- A turn (R63): the first case that applies, and whether it changed the game day. -/
def GameDayRecord.turn (g : GameDayRecord) : GameDayRecord × Bool :=
  if 0 < g.debt then ({ g with debt := g.debt - 1 }, false)
  else if g.day < 65535 then ({ g with day := g.day + 1 }, true)
  else (g, false)

/-- A turn with its DAY_TURN posts (R63, R64), and whether it changed the game day. -/
def turnDay (s : State) : State × Bool :=
  let r := s.gameDay.turn
  let t := { s with gameDay := r.1 }
  (if r.2 then postBoth .dayTurn 0 t else t, r.2)

/-- The day start in seconds after midnight (the S of R56). -/
def GameDayRecord.startSecond (g : GameDayRecord) : Nat := g.startHour * 3600 + g.startMinute * 60

/-! ### Second arrivals -/

/-- A date and time one second later, with the carries of R50 and the wrap of R51. -/
def nextSecond (t : DateTime) : DateTime :=
  if t.second < 59 then { t with second := t.second + 1 }
  else if t.minute < 59 then { t with second := 0, minute := t.minute + 1 }
  else if t.hour < 23 then { t with second := 0, minute := 0, hour := t.hour + 1 }
  else { date := nextDate t.date, hour := 0, minute := 0, second := 0 }

/-- The clock record one second later: the weekday is recomputed when the day changes (R50). -/
def ClockRecord.advance (c : ClockRecord) : ClockRecord :=
  let n := nextSecond c.now
  { now := n, weekday := if n.date = c.now.date then c.weekday else weekdayOf n.date }

/-- The turn of an arrival that reaches a turn instant, and the GAME entries the new game day fires (R62, R64, R80). -/
def arrivalTurn (s : State) : State :=
  if secondOfDay s.clock.now = s.gameDay.startSecond then
    let r := turnDay s
    if r.2 then takeGameDay r.1 else r.1
  else s

/-- The Calendar's share of a second arrival: in RUNNING the advance, the turn, the REAL entries (R50, R81);
in INVALID nothing (R52). -/
def calendarSecond (s : State) : State :=
  match s.calendar with
  | .invalid => s
  | .running => takeTime (arrivalTurn { s with clock := s.clock.advance })

/-- A second arrival (R49, R50, R82): the crystal's count begins a second. The crystal count, the Calendar and the Alarm
Table stop while the supply is below 1.5 V (R188). DESIGN CHOICE, unsafe: they stay stopped as long as the indicator is LOST,
also after a new cell is fitted while OFF, a case R188 leaves open (notes/assumptions/11.md). -/
def secondArrivalOp (s : State) : State :=
  if s.retention = .lost then s else takeSecond (calendarSecond { s with crystal := 0 })

/-! ### Setting the clock -/

/-- The turn instants later than `t0` and not later than `t1` for a day start of `start` seconds (R56). -/
def turnInstants (start t0 t1 : Nat) : Nat :=
  (((t1 : Int) - start) / 86400 - ((t0 : Int) - start) / 86400).toNat

/-- `n` turns one after another, counting those that changed the game day (R57). -/
def applyTurns (n : Nat) (r : State × Nat) : State × Nat :=
  match n with
  | 0 => r
  | k + 1 =>
    let t := turnDay r.1
    applyTurns k (t.1, if t.2 then r.2 + 1 else r.2)

/-- The clock record set to a new time, the weekday recomputed. -/
def setClock (t : DateTime) (s : State) : State :=
  { s with clock := { now := t, weekday := weekdayOf t.date } }

/-- A first setting (R55, R86). -/
def firstSetting (t : DateTime) (s : State) : State :=
  let reals := dueWhere (AlarmDue.realWhere fun n => decide (n ≤ instant t)) s
  let s1 := { setClock t s with
    calendar := .running
    setting := { kind := .first, found := 0, applied := 0, advanced := 0, debtAdded := 0 } }
  fireAll reals (postGame .clockSet 0 s1)

/-- A forward setting (R57, R86): the clock, the turns up to the catch-up limit, the GAME entries, the
setting record and CLOCK_SET, the REAL entries passed in the due-list order before the setting. -/
def forwardSetting (t : DateTime) (s : State) : State :=
  let t0 := instant s.clock.now
  let reals := dueWhere (AlarmDue.realWhere fun n => decide (t0 < n ∧ n ≤ instant t)) s
  let k := turnInstants s.gameDay.startSecond t0 (instant t)
  let n := min k s.gameDay.catchUp
  let r := applyTurns n (setClock t s, 0)
  let s1 := if 0 < r.2 then takeGameDay r.1 else r.1
  let s2 := { s1 with setting := { kind := .forward, found := k, applied := n, advanced := r.2, debtAdded := 0 } }
  fireAll reals (postGame .clockSet (BitVec.ofNat 8 (min r.2 254)) s2)

/-- A backward setting (R58). -/
def backwardSetting (t : DateTime) (s : State) : State :=
  let k := turnInstants s.gameDay.startSecond (instant t) (instant s.clock.now)
  let debt := min (s.gameDay.debt + k) 1023
  let s1 := { setClock t s with
    gameDay := { s.gameDay with debt := debt }
    setting := { kind := .backward, found := k, applied := 0, advanced := 0, debtAdded := debt - s.gameDay.debt } }
  postGame .clockSet 0xFF s1

/-- A setting equal to the present time (R59). -/
def sameSetting (s : State) : State :=
  postGame .clockSet 0
    { s with setting := { kind := .same, found := 0, applied := 0, advanced := 0, debtAdded := 0 } }

/-- CLOCK SET from the side link (R54 to R59). -/
def clockSetOp (year month day hour minute second : Byte) (s : State) : Result :=
  let t := dateTimeOf year month day hour minute second
  if t.valid = false then refuse .range s
  else
    match s.calendar with
    | .invalid => (firstSetting t s, .ok)
    | .running =>
      if instant s.clock.now < instant t then (forwardSetting t s, .ok)
      else if instant t < instant s.clock.now then (backwardSetting t s, .ok)
      else (sameSetting s, .ok)

/-! ### Commands of the game processor -/

/-- DAY START (R65). -/
def dayStartOp (hour minute : Byte) (s : State) : Result :=
  if 23 < hour.toNat ∨ 59 < minute.toNat then refuse .range s
  else ({ s with gameDay := { s.gameDay with startHour := hour.toNat, startMinute := minute.toNat } }, .ok)

/-- CATCH-UP LIMIT (R67). -/
def catchUpLimitOp (limit : Half) (s : State) : Result :=
  ({ s with gameDay := { s.gameDay with catchUp := min limit.toNat 255 } }, if 255 < limit.toNat then .clamped else .ok)

/-- REBASE (R68). -/
def rebaseOp (day : Half) (s : State) : Result :=
  ({ s with gameDay := { s.gameDay with day := day.toNat, debt := 0 } }, .ok)

/-- The Calendar after a cell reset (R71). -/
def resetCalendar (s : State) : State :=
  { s with calendar := .invalid, clock := .initial, gameDay := .initial, setting := .initial }

end Sys2Proof.Machine
end

