-- ==== Sys2Proof/Machine/Store.lean ====
section
/-! DEFINITION. What the Save Store and the Transaction Unit do: pool, walks, transactions, the hold, slot reads (R1 to R46). -/

namespace Sys2Proof.Machine

/-- Slot record `n` replaced. -/
def setSlot (n : SlotNo) (x : Option SlotData) (s : State) : State :=
  { s with slots := s.slots.set n.val x n.isLt }

/-- The page list of a slot; empty when it is FREE. -/
def slotPages (s : State) (n : SlotNo) : List Page :=
  match s.slots[n] with
  | some d => d.pages
  | none => []

/-- Pages join the pool as members of the set (R6); the pool is held in ascending order. -/
def joinPool (ps : List Page) (s : State) : State :=
  { s with pool := (List.finRange 64).filter fun p => s.pool.contains p || ps.contains p }

/-! ### Ends of walks and transactions -/

/-- A hold is granted (R39): HELD with its mode, an OPEN transaction suspended, HOLD 1 to both queues. -/
def grantHold (mode : HoldMode) (s : State) : State :=
  let txn := match s.txn with
    | some t =>
      match t.phase with
      | .opened _ => some { t with phase := .opened true }
      | _ => some t
    | none => none
  postBoth .hold 1 { s with hold := .held mode, txn := txn }

/-- A pending hold is granted when the walk it waits for ends (R39). -/
def grantPending (s : State) : State :=
  match s.hold with
  | .pending mode => grantHold mode s
  | _ => s

/-- A fill or check walk is stopped by its transaction's end; a VERIFY walk goes on (R35, R36). -/
def WalkRecord.withoutTxn (w : WalkRecord) : WalkRecord :=
  match w with
  | .verify n d a b => .verify n d a b
  | _ => .none

/-- A roll-back (R35): the walk abandoned, the staging pages to the pool, the transaction NONE, the store
note written. The grant of a hold that waited for the fill walk is the caller's, after its posts. -/
def rollBack (kind : EndKind) (s : State) : State :=
  match s.txn with
  | none => s
  | some t => { joinPool t.staging s with txn := none, note := .ended kind t.slot, walk := s.walk.withoutTxn }

/-- COMMIT_FAIL for the transaction that is about to end (R36, R38). -/
def rollBackWithFail (kind : EndKind) (s : State) : State :=
  match s.txn with
  | none => s
  | some t => postGame .commitFail (BitVec.ofNat 8 t.slot.val) (rollBack kind s)

/-- The fill walk completes (R27). -/
def fillComplete (t : Txn) (s : State) : State :=
  grantPending (postGame .fillDone (BitVec.ofNat 8 t.slot.val)
    { s with walk := .none, txn := some { t with phase := .opened false } })

/-- The generation a switch gives (R33). -/
def nextGeneration (old : Option SlotData) : BitVec 16 :=
  match old with
  | some d => d.generation + 1
  | none => 0

/-- The date a commit stamps (R33, R48). -/
def stampDate (s : State) : Option Date :=
  match s.calendar with
  | .running => some s.clock.now.date
  | .invalid => none

/-- The switch (R33): one update of slot record, pool, transaction and store note, with COMMIT_DONE and the
grant of a pending hold. -/
def switchSlot (t : Txn) (ab : Nat × Nat) (s : State) : State :=
  let g := nextGeneration s.slots[t.slot]
  let s1 := setSlot t.slot (some
    { damaged := false, pages := t.staging, generation := g, stampDay := s.gameDay.day, stampDate := stampDate s
      check := checkValue ab }) (joinPool (slotPages s t.slot) s)
  grantPending (postGame .commitDone (BitVec.ofNat 8 t.slot.val)
    { s1 with walk := .none, txn := none, note := .committed t.slot g })

/-- A VERIFY walk completes (R12). -/
def verifyComplete (n : SlotNo) (ab : Nat × Nat) (s : State) : State :=
  let s1 := { s with walk := .none }
  match s.slots[n] with
  | none => grantPending s1
  | some d =>
    if checkValue ab = d.check then grantPending (setSlot n (some { d with damaged := false }) s1)
    else grantPending (postGame .verifyBad (BitVec.ofNat 8 n.val) (setSlot n (some { d with damaged := true }) s1))

/-! ### Walks, page by page -/

/-- What the fill walk writes into byte `o` of page `k` of the staging list (R26). -/
def fillByte (s : State) (t : Txn) (k o : Nat) : Byte :=
  match t.mode with
  | .plain => 0xFF
  | .copy =>
    match (slotPages s t.slot)[k]? with
    | some p => pageByte s.pages p o
    | none => 0xFF

/-- The fill walk does page `k` of the staging list (R26). -/
def fillStagingPage (s : State) (t : Txn) (k : Nat) : Memory :=
  match t.staging[k]? with
  | some p => fillPage (fillByte s t k) p s.pages Config.pageSize
  | none => s.pages

/-- The sums after page `k` of a page list (R7). -/
def sumListPage (s : State) (ps : List Page) (k : Nat) (ab : Nat × Nat) : Nat × Nat :=
  match ps[k]? with
  | some p => sumPage s.pages ab p
  | none => ab

/-- A page of the fill walk (R26, R27). -/
def fillWalkPage (n : SlotNo) (done : Nat) (s : State) : State :=
  match s.txn with
  | none => s
  | some t =>
    let s1 := { s with pages := fillStagingPage s t done }
    if done + 1 < t.staging.length then
      { s1 with walk := .fill n (done + 1), txn := some { t with phase := .filling (done + 1) } }
    else fillComplete t s1

/-- A page of the check walk (R32, R33). -/
def checkWalkPage (n : SlotNo) (done a b : Nat) (s : State) : State :=
  match s.txn with
  | none => s
  | some t =>
    let ab := sumListPage s t.staging done (a, b)
    if done + 1 < t.staging.length then
      { s with walk := .check n (done + 1) ab.1 ab.2, txn := some { t with phase := .sealing (done + 1) } }
    else switchSlot t ab s

/-- A page of the VERIFY walk (R12). -/
def verifyWalkPage (n : SlotNo) (done a b : Nat) (s : State) : State :=
  let ab := sumListPage s (slotPages s n) done (a, b)
  if done + 1 < (slotPages s n).length then { s with walk := .verify n (done + 1) ab.1 ab.2 }
  else verifyComplete n ab s

/-- The walk in flight does one page; its last page ends it (R8). -/
def walkPageOp (s : State) : State :=
  match s.walk with
  | .none => s
  | .fill n d => fillWalkPage n d s
  | .check n d a b => checkWalkPage n d a b s
  | .verify n d a b => verifyWalkPage n d a b s

/-- `k` pages of the walk in flight, stopping when none is in flight. -/
def walkPages (k : Nat) (s : State) : State :=
  match k with
  | 0 => s
  | j + 1 => walkPages j (walkPageOp s)

/-- The length of the transaction's staging list. -/
def stagingLength (s : State) : Nat :=
  match s.txn with
  | some t => t.staging.length
  | none => 0

/-- The fill walk in flight brought to its end (R27). -/
def fillWalkDoneOp (s : State) : State :=
  match s.walk with
  | .fill _ d => walkPages (max 1 (stagingLength s - d)) s
  | _ => s

/-- The check walk in flight brought to its end (R33). -/
def checkWalkDoneOp (s : State) : State :=
  match s.walk with
  | .check _ d _ _ => walkPages (max 1 (stagingLength s - d)) s
  | _ => s

/-- The VERIFY walk in flight brought to its end (R12). -/
def verifyWalkDoneOp (s : State) : State :=
  match s.walk with
  | .verify n d _ _ => walkPages (max 1 ((slotPages s n).length - d)) s
  | _ => s

/-! ### Store commands -/

/-- The mode byte of OPEN (R24). -/
def fillModeOf (b : Byte) : Option FillMode := (flagOf b).map fun c => if c then .copy else .plain

/-- An accepted OPEN (R5, R25): the lowest pages of the pool become the staging list and the fill walk starts. -/
def openTransaction (n : SlotNo) (size : Nat) (mode : FillMode) (s : State) : State :=
  { s with
    pool := s.pool.drop size
    txn := some { phase := .filling 0, slot := n, staging := s.pool.take size, mode := mode }
    walk := .fill n 0 }

/-- OPEN (R24). -/
def openOp (slot size mode : Byte) (s : State) : Result :=
  if storeHeld s then refuse .held s
  else if walkInFlight s then refuse .busy s
  else if s.txn ≠ none then refuse .state s
  else if s.battery = .critical then refuse .lowPower s
  else
    match indexBelow 8 slot with
    | none => refuse .noSuch s
    | some n =>
      match fillModeOf mode with
      | none => refuse .range s
      | some m =>
        if size.toNat = 0 ∨ 8 < size.toNat then refuse .range s
        else if m = .copy ∧ s.slots[n] = none then refuse .state s
        else if s.pool.length < size.toNat then refuse .full s
        else (openTransaction n size.toNat m s, .ok)

/-- COMMIT (R31, R32). -/
def commitOp (s : State) : Result :=
  if storeHeld s then refuse .held s
  else if walkInFlight s then refuse .busy s
  else
    match s.txn with
    | none => refuse .state s
    | some t => ({ s with txn := some { t with phase := .sealing 0 }, walk := .check t.slot 0 0 0 }, .ok)

/-- ABORT (R36): a roll-back that stops a fill walk grants the hold that waited for it (R35). -/
def abortOp (s : State) : Result :=
  if storeHeld s then refuse .held s
  else
    match s.txn with
    | none => refuse .state s
    | some t =>
      match t.phase with
      | .sealing _ => refuse .busy s
      | .filling _ => (grantPending (rollBackWithFail .aborted s), .ok)
      | .opened _ => (rollBackWithFail .aborted s, .ok)

/-- ERASE (R9, R10). -/
def eraseOp (slot : Byte) (s : State) : Result :=
  if storeHeld s then refuse .held s
  else if walkInFlight s then refuse .busy s
  else
    match indexBelow 8 slot with
    | none => refuse .noSuch s
    | some n =>
      if s.txn.any (fun t => t.slot == n) then refuse .state s
      else if s.slots[n] = none then (s, .ok)
      else (setSlot n none (joinPool (slotPages s n) s), .ok)

/-- VERIFY (R11, R12). -/
def verifyOp (slot : Byte) (s : State) : Result :=
  if storeHeld s then refuse .held s
  else if walkInFlight s then refuse .busy s
  else
    match indexBelow 8 slot with
    | none => refuse .noSuch s
    | some n => if s.slots[n] = none then refuse .state s else ({ s with walk := .verify n 0 0 0 }, .ok)

/-! ### The hold -/

/-- The mode byte of HOLD (R37). -/
def holdModeOf (b : Byte) : Option HoldMode := (flagOf b).map fun d => if d then .drop else .keep

/-- A HOLD taken while NOT-HELD (R38, the table). -/
def newHold (mode : HoldMode) (s : State) : Result :=
  match s.txn.map Txn.phase, mode with
  | some (.filling _), .drop => (grantHold mode (rollBackWithFail .droppedByHold s), .ok)
  | some (.opened _), .drop =>
    let t := rollBackWithFail .droppedByHold s
    if walkInFlight s then ({ t with hold := .pending mode }, .pending) else (grantHold mode t, .ok)
  | _, _ => if walkInFlight s then ({ s with hold := .pending mode }, .pending) else (grantHold mode s, .ok)

/-- A HOLD with DROP over a recorded KEEP (R40, the table). -/
def upgradeHold (s : State) : Result :=
  match s.txn.map Txn.phase with
  | some (.filling _) => (grantHold .drop (rollBackWithFail .droppedByHold s), .ok)
  | some (.opened _) => ({ rollBackWithFail .droppedByHold s with hold := .pending .drop }, .pending)
  | _ => ({ s with hold := .pending .drop }, .pending)

/-- HOLD from the side link (R37, R38, R40). -/
def holdOp (mode : Byte) (s : State) : Result :=
  match holdModeOf mode with
  | none => refuse .range s
  | some m =>
    match s.hold with
    | .held _ => (s, .ok)
    | .notHeld => newHold m s
    | .pending .drop => (s, .pending)
    | .pending .keep => if m = .drop then upgradeHold s else (s, .pending)

/-- RELEASE from the side link (R41). -/
def releaseOp (s : State) : Result :=
  match s.hold with
  | .notHeld => (s, .ok)
  | .pending _ => ({ s with hold := .notHeld }, .ok)
  | .held _ =>
    let txn := match s.txn with
      | some t =>
        match t.phase with
        | .opened _ => some { t with phase := .opened false }
        | _ => some t
      | none => none
    (postBoth .hold 0 { s with hold := .notHeld, txn := txn }, .ok)

/-- SLOT READ (R43). -/
def slotReadOp (slot : Byte) (offset : Half) (count : Byte) (s : State) : LinkResult :=
  if storeHeld s = false then (s, .state, [])
  else
    match indexBelow 8 slot with
    | none => (s, .noSuch, [])
    | some n =>
      match s.slots[n] with
      | none => (s, .state, [])
      | some d =>
        if count.toNat = 0 ∨ 32 < count.toNat then (s, .range, [])
        else
          let size := d.pages.length * Config.pageSize
          let start := (if offset = 0xFFFF then s.side.slotRead else offset.toNat) % size
          ({ s with side.slotRead := (start + count.toNat) % size }, .ok,
            (List.range count.toNat).map fun i => listByte s.pages d.pages ((start + i) % size))

/-! ### Resets and the supply -/

/-- The Save Store and the Transaction Unit after a cell reset (R19, R46). -/
def resetStore (s : State) : State :=
  { s with
    pages := [], slots := Vector.replicate 8 none, pool := List.finRange 64, note := .none
    txn := none, hold := .notHeld }

/-- A transaction in FILLING or OPEN. -/
def txnRollsBack (s : State) : Bool :=
  match s.txn.map Txn.phase with
  | some (.filling _) => true
  | some (.opened _) => true
  | _ => false

/-- Bus reset at the store (R13, R44), but for the grant: a FILLING or OPEN transaction rolled back, a VERIFY
walk abandoned; a check walk goes on. -/
def busResetStore (s : State) : State :=
  let t := if txnRollsBack s then rollBack .rolledBackReset s else s
  match t.walk with
  | .verify _ _ _ _ => { t with walk := .none }
  | _ => t

/-- The walk that a bus reset ends, if any, was in flight before and is not after: the hold that waited for
it is granted (R39, R44). -/
def grantAfterReset (before after : State) : State :=
  if walkInFlight before && !walkInFlight after then grantPending after else after

/-- The fall of the main supply at the store (R45): any walk abandoned, any transaction rolled back, no hold. -/
def supplyFallStore (s : State) : State :=
  { rollBack .lostPower s with walk := .none, hold := .notHeld }

end Sys2Proof.Machine
end

