-- ==== Sys2Proof/Machine/Records.lean ====
section
/-! DEFINITION. The byte layout of every record (R184), and which record an id and an index name (R178, R181). -/

namespace Sys2Proof.Machine

/-! ### Pieces of a layout (R184) -/

/-- A one-byte value. -/
def byteOf (n : Nat) : Byte := BitVec.ofNat 8 n

/-- A 16-bit value, high byte first. -/
def bytes16 (n : Nat) : List Byte := [BitVec.ofNat 8 (n / 256), BitVec.ofNat 8 n]

/-- A 16-bit word, high byte first. -/
def bytesOfHalf (h : BitVec 16) : List Byte := [Half.hi h, Half.lo h]

/-- A flag as 00h or 01h. -/
def byteOfBool (b : Bool) : Byte := if b then 0x01 else 0x00

/-- `n` bytes of an absent field: FFh each. -/
def absent (n : Nat) : List Byte := List.replicate n 0xFF

/-- A one-byte field that may be absent. -/
def optByte (x : Option Nat) : Byte :=
  match x with
  | some n => byteOf n
  | none => 0xFF

/-- A 16-bit field that may be absent. -/
def opt16 (x : Option Nat) : List Byte :=
  match x with
  | some n => bytes16 n
  | none => absent 2

/-- A date that may be absent: year, month, day. -/
def optDate (x : Option Date) : List Byte :=
  match x with
  | some d => [byteOf d.year, byteOf d.month, byteOf d.day]
  | none => absent 3

/-- A list of pages in a place of eight bytes, followed by FFh to the end of its place. -/
def pageListBytes (ps : List Page) : List Byte :=
  ((ps.map fun p => byteOf p.val) ++ absent 8).take 8

/-- A set of pages: bit n mod 8 of byte ⌊n / 8⌋ stands for page n. -/
def pageSetBytes (ps : List Page) : List Byte :=
  (List.range 8).map fun k =>
    byteOf ((List.range 8).foldl (fun acc i => if (ps.map Fin.val).contains (8 * k + i) then acc + 2 ^ i else acc) 0)

/-- A set of kinds as three bytes: kinds 16-23, 8-15, 0-7; bits 18-23 read 0. -/
def kindSetBytes (k : BitVec 18) : List Byte :=
  [(k.extractLsb' 16 2).setWidth 8, k.extractLsb' 8 8, k.extractLsb' 0 8]

/-! ### The records -/

/-- Clock record, id 0. -/
def clockBytes (s : State) : List Byte :=
  let t := s.clock.now
  [match s.calendar with | .invalid => 0x00 | .running => 0x01,
    byteOf t.date.year, byteOf t.date.month, byteOf t.date.day, byteOf s.clock.weekday,
    byteOf t.hour, byteOf t.minute, byteOf t.second]

/-- The setting kind's code. -/
def SettingKind.code (k : SettingKind) : Byte :=
  match k with
  | .none => 0 | .first => 1 | .forward => 2 | .backward => 3 | .same => 4

/-- Game-day record, id 1. -/
def gameDayBytes (s : State) : List Byte :=
  bytes16 s.gameDay.day ++ bytes16 s.gameDay.debt
    ++ [byteOf s.gameDay.startHour, byteOf s.gameDay.startMinute, byteOf s.gameDay.catchUp, s.setting.kind.code]
    ++ bytes16 s.setting.found ++ [byteOf s.setting.applied, byteOf s.setting.advanced]
    ++ bytes16 s.setting.debtAdded

/-- Slot record, id 2. -/
def slotBytes (x : Option SlotData) : List Byte :=
  match x with
  | none => 0x00 :: absent 18
  | some d =>
    [if d.damaged then 0x02 else 0x01, byteOf d.pages.length] ++ pageListBytes d.pages
      ++ bytesOfHalf d.generation ++ bytes16 d.stampDay ++ optDate d.stampDate ++ bytesOfHalf d.check

/-- Pool record, id 3. -/
def poolBytes (s : State) : List Byte := byteOf s.pool.length :: pageSetBytes s.pool

/-- Bytes 0-13 of the transaction record. -/
def txnFieldBytes (x : Option Txn) : List Byte :=
  match x with
  | none => 0x00 :: absent 13
  | some t =>
    [match t.phase with | .filling _ => 0x01 | .opened _ => 0x02 | .sealing _ => 0x03,
      byteOf t.slot.val, byteOf t.staging.length] ++ pageListBytes t.staging
      ++ [match t.mode with | .plain => 0x00 | .copy => 0x01,
        match t.phase with | .filling n => byteOf n | .opened _ => 0xFF | .sealing n => byteOf n,
        match t.phase with | .opened b => byteOfBool b | _ => 0x00]

/-- The hold mode's code. -/
def HoldMode.code (m : HoldMode) : Byte :=
  match m with
  | .keep => 0x00 | .drop => 0x01

/-- Bytes 14-15 of the transaction record: the hold record (R37). -/
def holdBytes (h : HoldRecord) : List Byte :=
  match h with
  | .notHeld => [0x00, 0xFF] | .pending m => [0x01, m.code] | .held m => [0x02, m.code]

/-- Bytes 16-17 of the transaction record: the walk in flight (R8). -/
def walkBytes (w : WalkRecord) : List Byte :=
  match w with
  | .none => [0x00, 0xFF] | .fill _ _ => [0x01, 0xFF] | .check _ _ _ _ => [0x02, 0xFF]
  | .verify n _ _ _ => [0x03, byteOf n.val]

/-- Transaction record, id 4. -/
def transactionBytes (s : State) : List Byte := txnFieldBytes s.txn ++ holdBytes s.hold ++ walkBytes s.walk

/-- Store note, id 5. -/
def noteBytes (n : StoreNote) : List Byte :=
  match n with
  | .none => [0x00, 0xFF, 0xFF, 0xFF]
  | .committed slot g => [0x01, byteOf slot.val] ++ bytesOfHalf g
  | .ended k slot =>
    [match k with | .aborted => 0x02 | .rolledBackReset => 0x03 | .droppedByHold => 0x04 | .lostPower => 0x05,
      byteOf slot.val, 0xFF, 0xFF]

/-- The missed count the wake note lists for an entry; 0 for an entry not in the list. -/
def missedFor (l : List (Fin 8 × Nat)) (e : Fin 8) : Nat :=
  match l.find? (fun x => x.1 == e) with
  | some x => x.2
  | none => 0

/-- Wake note, id 6. -/
def wakeBytes (w : WakeNote) : List Byte :=
  [byteOfBool w.afterCellReset] ++ bytes16 w.daysElapsed ++ opt16 w.powerDownDay ++ optDate w.powerDownDate
    ++ [byteOf w.missed.length] ++ (List.finRange 8).map fun e => byteOf (missedFor w.missed e)

/-- Bytes 2, 3 and 5-10 of an alarm record: kind code, repeat code, and the due. Bytes that carry no field
of the kind read FFh (notes/assumptions/25.md). -/
def dueBytes (d : AlarmDue) : Byte × Byte × List Byte :=
  match d with
  | .real t r =>
    (0x00, match r with | .none => 0x00 | .daily => 0x01 | .weekly => 0x02,
      [byteOf t.date.year, byteOf t.date.month, byteOf t.date.day, byteOf t.hour, byteOf t.minute, byteOf t.second])
  | .game day every => (0x01, byteOf every, bytes16 day ++ absent 4)
  | .countdown n r => (0x02, byteOfBool r.isSome, bytes16 n ++ opt16 r ++ absent 2)

/-- Alarm record, id 7. -/
def alarmBytes (s : State) (e : Fin 8) : List Byte :=
  match s.alarms[e] with
  | none => 0x00 :: absent 13
  | some a =>
    let d := dueBytes a.due
    [match a.state with | .armed => 0x01 | .spent => 0x02, match a.owner with | .game => 0x00 | .system => 0x01,
      d.1, d.2.1, optByte (a.action.map Fin.val)] ++ d.2.2
      ++ [byteOf a.missed, byteOfBool a.late, optByte (duePosition s e)]

/-- The code of a running stream state. -/
def StreamRun.code (r : StreamRun) : Byte :=
  match r with
  | .priming => 0x01 | .playing => 0x02 | .starved => 0x03

/-- The stream state's code, and the state before pause. -/
def streamStateBytes (r : StreamState) : List Byte :=
  match r with
  | .idle => [0x00, 0xFF] | .run x => [x.code, 0xFF] | .paused x => [0x04, x.code]

/-- Stream record, id 8. -/
def streamBytes (r : RingRecord) : List Byte :=
  streamStateBytes r.state ++ bytes16 r.fill ++ bytes16 r.play ++ bytes16 r.level ++ bytes16 r.lowMark
    ++ [byteOf r.overrun, r.held]

/-- Bytes 6-17 of a voice record: divider and envelope. -/
def pitchAndEnvelopeBytes (d : Divider) (e : Envelope) : List Byte :=
  bytes16 d.d ++ [d.detune] ++ bytes16 d.effective ++ bytes16 d.countdown
    ++ [byteOf e.volume, match e.direction with | .none => 0x00 | .up => 0x01 | .down => 0x02, byteOf e.period]
    ++ bytes16 e.count

/-- Voice record, id 9. -/
def voiceBytes (s : State) (v : Fin 6) : List Byte :=
  if h : v.val < 5 then
    let x := s.voices[v.val]
    [match x.state with | .stopped => 0x00 | .playing => 0x01 | .paused => 0x02,
      byteOf x.code, byteOf x.start, byteOf x.loopPosition,
      byteOf ((if x.loop then 1 else 0) + (if x.stopAtZero then 2 else 0)), byteOf x.position]
      ++ pitchAndEnvelopeBytes x.divider x.envelope ++ [x.sample]
  else
    (streamStateBytes s.ring.state).take 1 ++ absent 5
      ++ pitchAndEnvelopeBytes s.voice5.divider s.voice5.envelope ++ [s.ring.held]

/-- Bytes 0-7 of the rumble record: the mode and the fields it has. -/
def rumbleModeBytes (m : RumbleMode) : List Byte :=
  match m with
  | .off => 0x00 :: absent 7
  | .direct l => [0x01, byteOf l] ++ absent 6
  | .pattern p n k l t => [0x02, 0xFF, byteOf p.val, byteOf n, byteOf k, byteOf l, byteOf t, 0xFF]
  | .linked v => [0x03] ++ absent 6 ++ [byteOf v.val]

/-- Rumble record, id 10. -/
def rumbleBytes (r : RumbleRecord) : List Byte :=
  rumbleModeBytes r.mode ++ [byteOf r.level] ++ bytes16 r.runCounter ++ bytes16 r.runLimit
    ++ [byteOfBool r.rest.isSome, optByte r.rest]

/-- Bytes 0-2 of the event head record: the head entry (R162). -/
def headBytes (q : List EventEntry) : List Byte :=
  match q with
  | [] => [0xFF, 0x00, 0x00]
  | e :: _ => [byteOf e.kind.number, e.detail, byteOf e.count]

/-- Event head record, id 11, of one master's event record (R162). -/
def eventHeadBytes (r : EventRecord) : List Byte :=
  headBytes r.queue ++ [byteOf r.queue.length] ++ kindSetBytes r.lost ++ kindSetBytes r.mask
    ++ [byteOfBool r.lineEnable, byteOfBool r.line]

/-- Power record, id 12. It exists only while the main supply is present (R185). -/
def powerBytes (s : State) : List Byte :=
  [match s.power with | .active => 0x00 | .sleep => 0x01 | .off => 0xFF,
    match s.battery with | .good => 0x00 | .low => 0x01 | .critical => 0x02,
    byteOfBool s.port.summary]

/-- The layout's code. -/
def Layout.code (l : Layout) : Byte :=
  match l with
  | .short => 0x00 | .long => 0x01

/-- The rounding mode's code. -/
def Rounding.code (r : Rounding) : Byte :=
  match r with
  | .floor => 0x00 | .nearest => 0x01

/-- Mixer record, id 13. -/
def mixerBytes (s : State) : List Byte :=
  [byteOf s.mixer.master, s.mixer.rounding.code,
    byteOfBool s.mixer.enabled, byteOfBool s.mixer.clip, byteOf s.mixer.me] ++ bytes16 s.mixer.dac
    ++ [s.layout.code]

/-! ### Naming a record -/

/-- The record of an id; an id of 14 or above names none (R178). -/
def recordOf (id : Byte) : Option RecordId :=
  match id.toNat with
  | 0 => some .clock | 1 => some .gameDay | 2 => some .slot | 3 => some .pool | 4 => some .transaction
  | 5 => some .storeNote | 6 => some .wakeNote | 7 => some .alarm | 8 => some .stream | 9 => some .voice
  | 10 => some .rumble | 11 => some .eventHead | 12 => some .power | 13 => some .mixer
  | _ => none

/-- The event record of a master. -/
def eventsOf (m : Master) (s : State) : EventRecord :=
  match m with
  | .game => s.gameEvents
  | .system => s.systemEvents

/-- A whole copy of the record that an id and an index name, as master `m` reads it; none for an index that
names no member (R178, R162). -/
def recordCopy (m : Master) (r : RecordId) (index : Byte) (s : State) : Option (List Byte) :=
  match r with
  | .clock => some (clockBytes s)
  | .gameDay => some (gameDayBytes s)
  | .slot => (indexBelow 8 index).map fun n => slotBytes s.slots[n]
  | .pool => some (poolBytes s)
  | .transaction => some (transactionBytes s)
  | .storeNote => some (noteBytes s.note)
  | .wakeNote => some (wakeBytes s.wake)
  | .alarm => (indexBelow 8 index).map fun e => alarmBytes s e
  | .stream => some (streamBytes s.ring)
  | .voice => (indexBelow 6 index).map fun v => voiceBytes s v
  | .rumble => some (rumbleBytes s.rumble)
  | .eventHead => some (eventHeadBytes (eventsOf m s))
  | .power => some (powerBytes s)
  | .mixer => some (mixerBytes s)

/-- READ RECORD (R181): the voice and rumble records are refused PRIVILEGE whatever the index. -/
def readRecordOp (id index : Byte) (s : State) : LinkResult :=
  match recordOf id with
  | none => (s, .noSuch, [])
  | some .voice => (s, .privilege, [])
  | some .rumble => (s, .privilege, [])
  | some r =>
    match recordCopy .system r index s with
    | none => (s, .noSuch, [])
    | some bytes => (s, .ok, bytes)

end Sys2Proof.Machine
end

