-- ==== Sys2Proof/Machine/DataPort.lean ====
section
/-! DEFINITION. The data path of the main bus port: SELECT, ENTRY, STATUS CLEAR, data-port writes and reads (R172 to R178), and the commands of the Event Unit (R163 to R166). -/

namespace Sys2Proof.Machine

/-- SELECT of SLOT (R14). -/
def selectSlot (index : Byte) (address : Nat) (s : State) : Result :=
  if storeHeld s then refuse .held s
  else
    match indexBelow 8 index with
    | none => refuse .noSuch s
    | some n =>
      match s.slots[n] with
      | none => refuse .state s
      | some d =>
        let o := address % (d.pages.length * Config.pageSize)
        (selectTarget (.slot n) o (listByte s.pages d.pages o) s, .ok)

/-- The staging list of an OPEN transaction. -/
def openStaging (s : State) : Option (List Page) :=
  match s.txn with
  | some t =>
    match t.phase with
    | .opened _ => some t.staging
    | _ => none
  | none => none

/-- SELECT of STAGE (R28). -/
def selectStage (address : Nat) (s : State) : Result :=
  if storeHeld s then refuse .held s
  else
    match openStaging s with
    | none => refuse .state s
    | some ps =>
      let o := address % (ps.length * Config.pageSize)
      (selectTarget .stage o (listByte s.pages ps o) s, .ok)

/-- SELECT of INFO (R178): the copy is taken now. -/
def selectInfo (index : Byte) (address : Half) (s : State) : Result :=
  match recordOf (Half.hi address) with
  | none => refuse .noSuch s
  | some r =>
    match recordCopy .game r index s with
    | none => refuse .noSuch s
    | some copy =>
      let o := (Half.lo address).toNat % copy.length
      (selectTarget (.info r index copy) o (copy.getD o 0xFF) s, .ok)

/-- SELECT (R174). -/
def selectOp (target index : Byte) (address : Half) (s : State) : Result :=
  match target.toNat with
  | 0 => (selectTarget .none 0 0x00 s, .ok)
  | 1 =>
    let o := address.toNat % Config.waveSize
    (selectTarget .wave o (Memory.read Config.unwrittenZero s.waveMem o) s, .ok)
  | 2 => (selectTarget .ring 0 s.port.latch s, .ok)
  | 3 => selectStage address.toNat s
  | 4 => selectSlot index address.toNat s
  | 5 =>
    let o := address.toNat % Config.patternSize
    (selectTarget .pattern o (Memory.read Config.unwrittenZero s.patternMem o) s, .ok)
  | 6 => selectInfo index address s
  | _ => refuse .noSuch s

/-- ENTRY (R175). -/
def entryOp (direction : Byte) (s : State) : Result :=
  match flagOf direction with
  | none => refuse .range s
  | some d => ({ s with port.descending := d }, .ok)

/-- STATUS CLEAR (R172). -/
def statusClearOp (s : State) : Result :=
  ({ s with port.summary := false, port.outcome := .ok }, .ok)

/-- The counter moved within a target of `size` bytes. -/
def advanceCounter (size : Nat) (s : State) : State :=
  { s with port.counter := moveCounter s.port.descending size s.port.counter }

/-- A data-port write with STAGE selected (R29): a counter beyond a size that has shrunk is first reduced
(R175; notes/assumptions/21.md). -/
def stageWrite (b : Byte) (s : State) : State :=
  if storeHeld s then refuseAccess .held s
  else
    match openStaging s with
    | none => refuseAccess .state s
    | some ps =>
      let size := ps.length * Config.pageSize
      advanceCounter size { s with pages := writeListByte s.pages ps (s.port.counter % size) b }

/-- A data-port write with no command pending (R176). -/
def targetWrite (b : Byte) (s : State) : State :=
  match s.port.target with
  | .none => refuseAccess .state s
  | .wave =>
    advanceCounter Config.waveSize
      { s with waveMem := Memory.write Config.unwrittenZero s.waveMem (s.port.counter % Config.waveSize) b }
  | .pattern =>
    advanceCounter Config.patternSize
      { s with patternMem := Memory.write Config.unwrittenZero s.patternMem (s.port.counter % Config.patternSize) b }
  | .stage => stageWrite b s
  | .ring => ringWrite b s
  | .slot _ => refuseAccess (if storeHeld s then .held else .readOnly) s
  | .info _ _ _ => refuseAccess .readOnly s

/-- A read that returns the latch, moves the counter within `size` and reloads the latch by `load` (R177). -/
def latchRead (size : Nat) (load : Nat → Byte) (s : State) : State :=
  let c := moveCounter s.port.descending size s.port.counter
  { s with busData := s.port.latch, port := { s.port with counter := c, latch := load c } }

/-- A data-port read with SLOT selected (R15). -/
def slotPortRead (n : SlotNo) (s : State) : State :=
  if storeHeld s then refuseRead .held s
  else
    match s.slots[n] with
    | none => refuseRead .state s
    | some d => latchRead (d.pages.length * Config.pageSize) (listByte s.pages d.pages) s

/-- A data-port read with STAGE selected (R29). -/
def stageRead (s : State) : State :=
  if storeHeld s then refuseRead .held s
  else
    match openStaging s with
    | none => refuseRead .state s
    | some ps => latchRead (ps.length * Config.pageSize) (listByte s.pages ps) s

/-- A data-port read (R177). -/
def targetRead (s : State) : State :=
  match s.port.target with
  | .none => { s with busData := 0x00 }
  | .ring => refuseRead .state s
  | .wave => latchRead Config.waveSize (Memory.read Config.unwrittenZero s.waveMem) s
  | .pattern => latchRead Config.patternSize (Memory.read Config.unwrittenZero s.patternMem) s
  | .stage => stageRead s
  | .slot n => slotPortRead n s
  | .info _ _ copy => latchRead copy.length (fun o => copy.getD o 0xFF) s

/-! ### Event commands -/

/-- The event record of a master changed. -/
def modifyEvents (m : Master) (f : EventRecord → EventRecord) (s : State) : State :=
  match m with
  | .game => { s with gameEvents := f s.gameEvents }
  | .system => { s with systemEvents := f s.systemEvents }

/-- EVENT ACK (R163). -/
def eventAckOp (m : Master) (s : State) : Result :=
  (modifyEvents m (fun r => { r with queue := r.queue.tail }) s, .ok)

/-- EVENT ACK LOST (R164). -/
def eventAckLostOp (m : Master) (s : State) : Result :=
  (modifyEvents m (fun r => { r with lost := 0 }) s, .ok)

/-- The eighteen flags of EVENT MASK's three bytes, high byte first; bits 18-23 are not stored (R165). -/
def maskOf (m1 m2 m3 : Byte) : BitVec 18 := (m1 ++ m2 ++ m3 : BitVec 24).setWidth 18

/-- EVENT MASK (R165). -/
def eventMaskOp (m : Master) (m1 m2 m3 : Byte) (s : State) : Result :=
  (modifyEvents m (fun r => { r with mask := maskOf m1 m2 m3 }) s, .ok)

/-- LINE ENABLE (R166). -/
def lineEnableOp (m : Master) (enable : Byte) (s : State) : Result :=
  match flagOf enable with
  | none => refuse .range s
  | some b => (modifyEvents m (fun r => { r with lineEnable := b }) s, .ok)

end Sys2Proof.Machine
end

