-- ==== Sys2Proof/Machine/Supply.lean ====
section
/-! DEFINITION. What the Supply Monitor does: BATTERY, POWER MODE, SILENCE across the blocks, the rise and fall of the main supply, bus reset, retention (R109, R185 to R192). -/

namespace Sys2Proof.Machine

/-! ### Requests -/

/-- The state byte of BATTERY (R187). -/
def batteryOf (b : Byte) : Option BatteryState :=
  if b = 0x00 then some .good else if b = 0x01 then some .low else if b = 0x02 then some .critical else none

/-- The detail of BATTERY: the new state's code (R156). -/
def BatteryState.code (b : BatteryState) : Byte :=
  match b with
  | .good => 0x00 | .low => 0x01 | .critical => 0x02

/-- A change of battery state: taken by the Rumble Driver at once (R151), BATTERY posted, then a cap cut
when the change is into CRITICAL with the mode level above 0 (R187). -/
def changeBattery (b : BatteryState) (s : State) : State :=
  let t := postGame .battery b.code (formLevel { s with battery := b })
  if b = .critical ∧ 0 < modeLevel s then postGame .rumbleCut 1 t else t

/-- BATTERY from the side link (R187). -/
def batteryOp (state : Byte) (s : State) : Result :=
  match batteryOf state with
  | none => refuse .range s
  | some b => (if b = s.battery then s else changeBattery b s, .ok)

/-- A change to SLEEP as the blocks take it (R108, R121, R136, R153, R186). -/
def enterSleep (s : State) : State :=
  formLevel (holdDac (pauseStream (pauseVoices { s with power := .sleep })))

/-- A change to ACTIVE as the blocks take it (R108, R121, R153, R186). DESIGN CHOICE, unsafe: voices and stream resume
before the driver forms its level, so a LINKED one reads its voice as resumed (notes/assumptions/22.md). -/
def enterActive (s : State) : State :=
  formLevel (resumeStream (resumeVoices { s with power := .active }))

/-- POWER MODE from the side link (R186): a request for the state in force changes nothing. -/
def powerModeOp (mode : Byte) (s : State) : Result :=
  match flagOf mode with
  | none => refuse .range s
  | some true => (if s.power = .active then enterSleep s else s, .ok)
  | some false => (if s.power = .sleep then enterActive s else s, .ok)

/-- SILENCE from the side link (R109, R122, R153); the Mixer's record is kept (R137). -/
def silenceOp (s : State) : Result := (silenceRumble (silenceStream (silenceVoices s)), .ok)

/-! ### Supply, reset and retention -/

/-- Every main-domain block at its power-up values (R190 step 2). -/
def powerUpMain (s : State) : State :=
  resetRumble (resetMixer (resetRing (resetVoices
    { s with
      port := .initial, busData := 0x00, side := .initial, walk := .none, motorFrame := 0
      gameEvents := .initial, systemEvents := .initial })))

/-- A cell reset (R188): R19, R46, R71, R89, and the indicator set to KEPT. -/
def cellReset (s : State) : State :=
  { freeAlarms (resetCalendar (resetStore s)) with wake := .afterReset, retention := .kept }

/-- The wake note of a normal start (R189). -/
def normalWake (s : State) : WakeNote :=
  { s.wake with
    afterCellReset := false
    daysElapsed := min (s.gameDay.day - s.wake.powerDownDay.getD s.gameDay.day) 65535
    missed := missedList s }

/-- Step 4 of the start-up sequence: the wake note completed and every missed count 0 (R189). -/
def completeWake (afterCellReset : Bool) (s : State) : State :=
  clearMissed { s with wake := if afterCellReset then .afterReset else normalWake s }

/-- The start-up sequence (R190). -/
def startUp (s : State) : State :=
  let lost := decide (s.retention = .lost)
  let s1 := if lost then cellReset s else s
  let s2 := { powerUpMain s1 with power := .active, battery := .good }
  postBoth .wake (if lost then 1 else 0) (completeWake lost s2)

/-- A rise of the main supply (R185, R190); with the main supply present there is none. -/
def supplyRise (s : State) : State := if s.power = .off then startUp s else s

/-- The wake note at a fall of the main supply (R191). -/
def noteFall (s : State) : State :=
  { s with wake := { s.wake with powerDownDay := some s.gameDay.day, powerDownDate := stampDate s } }

/-- A fall of the main supply (R191); with the main supply absent there is none. -/
def supplyFall (s : State) : State :=
  if s.power = .off then s
  else { powerUpMain (supplyFallStore (noteFall s)) with power := .off, battery := .good }

/-- What a bus reset does to the records (R192, the table), before the grant of a hold that waited. -/
def busResetRecords (s : State) : State :=
  resetRumble (resetMixer (resetRing (resetVoices
    { busResetStore s with port := .initial, gameEvents := .initial })))

/-- The assertion of RESET (R192): a bus reset while the main supply is present; the port takes no strobe
until the release. -/
def busResetOp (s : State) : State :=
  let s1 := { s with resetPin := true }
  if s1.power = .off then s1 else grantAfterReset s1 (busResetRecords s1)

/-- The release of RESET (R192). -/
def resetReleaseOp (s : State) : State := { s with resetPin := false }

/-- The backup supply below 1.5 V (R188): with the main supply present the backup domain is fed from it and
the indicator stays KEPT. The indicator reads LOST until the cell reset, and stands here for the loss itself: DESIGN CHOICE,
unsafe, for a new cell fitted while OFF (notes/assumptions/11.md). -/
def retentionLossOp (s : State) : State := if s.power = .off then { s with retention := .lost } else s

end Sys2Proof.Machine
end

