-- ==== Sys2Proof/Machine/Ports.lean ====
section
/-! DEFINITION. The two ports byte by byte: which effect a complete command or request has, the command port and the data port (R169 to R171, R182), the side link's frame (R179, R180). -/

namespace Sys2Proof.Machine

/-- A command whose object the game processor may not write (R182). -/
def privileged (s : State) : Result := refuse .privilege s

/-- The effect of a complete main-bus command at its taking (R171, R183). A row that is no main-bus command
is refused as an unknown code is. -/
def busEffect (i : Instr) (s : State) : Result :=
  match i with
  | .select _ t x a => selectOp t x a s
  | .entry _ d => entryOp d s
  | .statusClear _ => statusClearOp s
  | .openTxn _ n z m => openOp n z m s
  | .commit _ => commitOp s
  | .abort _ => abortOp s
  | .erase _ n => eraseOp n s
  | .verify _ n => verifyOp n s
  | .hold _ _ => privileged s
  | .release _ => privileged s
  | .clockSet _ _ _ _ _ _ _ => privileged s
  | .dayStart _ h m => dayStartOp h m s
  | .catchUpLimit _ v => catchUpLimitOp v s
  | .rebase _ v => rebaseOp v s
  | .alarmArm _ e k c a b1 b2 b3 b4 b5 b6 => alarmArmOp .game e k c a b1 b2 b3 b4 b5 b6 s
  | .alarmDisarm _ e => alarmDisarmOp .game e s
  | .voiceSet _ v c st lp f => voiceSetOp v c st lp f s
  | .voiceStart _ m => voiceStartOp m s
  | .voiceStop _ m => voiceStopOp m s
  | .voicePitch _ v d t => voicePitchOp v d t s
  | .voiceLevel _ v l d e => voiceLevelOp v l d e s
  | .waveLayout _ l => waveLayoutOp l s
  | .ringSet _ m => ringSetOp m s
  | .ringFlush _ => ringFlushOp s
  | .mixSet _ v m e => mixSetOp v m e s
  | .clipClear _ => clipClearOp s
  | .silence _ => privileged s
  | .rumbleDirect _ l => rumbleDirectOp l s
  | .rumblePattern _ p n => rumblePatternOp p n s
  | .rumbleLink _ v => rumbleLinkOp v s
  | .rumbleStop _ => rumbleStopOp s
  | .rumbleLimit _ l => rumbleLimitOp l s
  | .eventAck _ => eventAckOp .game s
  | .eventAckLost _ => eventAckLostOp .game s
  | .eventMask _ m1 m2 m3 => eventMaskOp .game m1 m2 m3 s
  | .lineEnable _ e => lineEnableOp .game e s
  | .battery _ _ => privileged s
  | .powerMode _ _ => privileged s
  | _ => refuse .noSuch s

/-- The effect of a complete side-link request at its taking (R180, R183). A row that is no request is
refused as an unknown byte is. -/
def linkEffect (i : Instr) (s : State) : LinkResult :=
  match i with
  | .hold _ m => noData (holdOp m s)
  | .release _ => noData (releaseOp s)
  | .slotRead n o c => slotReadOp n o c s
  | .clockSet _ y mo d h mi sec => noData (clockSetOp y mo d h mi sec s)
  | .alarmArm _ e k c a b1 b2 b3 b4 b5 b6 => noData (alarmArmOp .system e k c a b1 b2 b3 b4 b5 b6 s)
  | .alarmDisarm _ e => noData (alarmDisarmOp .system e s)
  | .silence _ => noData (silenceOp s)
  | .eventAck _ => noData (eventAckOp .system s)
  | .eventAckLost _ => noData (eventAckLostOp .system s)
  | .eventMask _ m1 m2 m3 => noData (eventMaskOp .system m1 m2 m3 s)
  | .lineEnable _ e => noData (lineEnableOp .system e s)
  | .battery _ b => noData (batteryOp b s)
  | .powerMode _ m => noData (powerModeOp m s)
  | .readRecord r x => readRecordOp r x s
  | _ => (s, .noSuch, [])

/-! ### Main bus port -/

/-- The command of a command byte and all its parameters is taken (R171) and reported (R172). -/
def takeBus (b : Byte) (ps : List Byte) (s : State) : State :=
  match decodeBus b ps with
  | some i => report (commandReporting b) (BitVec.ofNat 8 (commandCode b)) (busEffect i s)
  | none => s

/-- A write to the command port (R170). -/
def commandWrite (b : Byte) (s : State) : State :=
  if busAlive s then
    let t := abandonCommand s
    match busParameters (commandCode b) with
    | none => report (commandReporting b) (BitVec.ofNat 8 (commandCode b)) (refuse .noSuch t)
    | some 0 => takeBus b [] t
    | some n => { t with port.command := some { byte := b, received := [], needed := n } }
  else s

/-- A write to the data port (R171, R176): a parameter of the pending command, or data for the target. -/
def dataPortWrite (b : Byte) (s : State) : State :=
  if busAlive s then
    match s.port.command with
    | none => targetWrite b s
    | some c =>
      let ps := c.received ++ [b]
      if ps.length < c.needed then { s with port.command := some { c with received := ps } }
      else takeBus c.byte ps { s with port.command := none }
  else s

/-- A read of the data port (R171, R177): a read of the target, command pending or not. -/
def dataPortRead (s : State) : State := if busAlive s then targetRead s else s

/-! ### Side link -/

/-- The request that the frame's bytes complete is taken (R180). -/
def takeFrame (bytes : List Byte) (s : State) : State :=
  match decodeLink bytes with
  | some i => takeLink (linkEffect i) s
  | none => takeLink (fun t => (t, .noSuch, [])) s

/-- The request bytes of a frame with their last byte whole (R179, R180): an unknown request byte is refused at once;
a known request is taken with its last parameter, and its bytes are handed over at its taking. -/
def receiveBytes (bytes : List Byte) (s : State) : State :=
  match linkParameters (bytes.headD 0).toNat with
  | none => takeFrame bytes { s with side.frame := .receiving [] [] }
  | some n =>
    if bytes.length ≤ n then { s with side.frame := .receiving bytes [] }
    else takeFrame bytes { s with side.frame := .receiving [] [] }

/-- A rising edge of SLCK with `b` on SLD (R179): the next bit of the request, eight to a byte, most significant
first; once the request is taken the bit is ignored and one of the reply is sampled; with SLSEL released nothing. The
main supply must be present (R190). -/
def clockBit (s : State) (b : Bool) : State :=
  if s.power = .off then s
  else
    match s.side.frame with
    | .idle => s
    | .taken reply => { s with side.sampled := s.side.sampled ++ [replyBit reply s.side.sampled.length] }
    | .receiving bytes bits =>
      if bits.length < 7 then { s with side.frame := .receiving bytes (bits ++ [b]) }
      else receiveBytes (bytes ++ [byteOfBits (bits ++ [b])]) s

/-- Bits clocked one after another. -/
def clockBits (bits : List Bool) (s : State) : State := bits.foldl clockBit s

/-- Bytes clocked in one after another. -/
def clockIn (bytes : List Byte) (s : State) : State := clockBits (bytes.flatMap bitsOf) s

/-- SLSEL asserted (R179): a new frame begins, with nothing received and no reply owed. SLSEL is not sensed
while the main supply is absent (R190). -/
def assertSelect (s : State) : State :=
  if s.power = .off then s else { s with side.frame := .receiving [] [], side.sampled := [] }

/-- SLSEL released (R179): the frame ends and SLD is released; a request not yet taken is discarded, and the rest of
a reply is lost. -/
def releaseSelect (s : State) : State := { s with side.frame := .idle }

/-- The reply of the frame clocked out to its end, from its first bit. -/
def readOut (s : State) : State :=
  match s.side.frame with
  | .taken reply => { s with side.sampled := reply.flatMap bitsOf }
  | _ => s

/-- A request row. In a frame that has received nothing it is taken there; in any other frame its bytes are clocked
in, so in one whose request is taken they only clock the reply out; with SLSEL released the row stands for its whole
selection, its reply read to the end (notes/assumptions/5.md). Without the main supply nothing is received. -/
def runLink (bytes : List Byte) (op : State → LinkResult) (s : State) : State :=
  if s.power = .off then s
  else
    match s.side.frame with
    | .idle => releaseSelect (readOut (takeLink op (assertSelect s)))
    | .receiving [] [] => takeLink op s
    | _ => clockIn bytes s

end Sys2Proof.Machine
end

