-- ==== Sys2Proof/Machine/StoreCommands.lean ====
section
/-! DEFINITION. The meanings of the main-bus commands of targets, status and store (R172, R174, R175, R9, R11, R24, R31, R36). -/

namespace Sys2Proof.Machine

/-- The outcome of a command's execution, as the host reads it. -/
abbrev Step := Host.Outcome State Fault Refusal

/-- SELECT (R174). -/
def execSelect (reporting : Bool) (target : Byte) (index : Byte) (address : Half) (s : State) : Step :=
  .next (runBus reporting 0x01 (selectOp target index address) s)

/-- ENTRY (R175). -/
def execEntry (reporting : Bool) (direction : Byte) (s : State) : Step :=
  .next (runBus reporting 0x02 (entryOp direction) s)

/-- STATUS CLEAR (R172). -/
def execStatusClear (reporting : Bool) (s : State) : Step :=
  .next (runBus reporting 0x03 statusClearOp s)

/-- OPEN (R24, R25). -/
def execOpenTxn (reporting : Bool) (slot : Byte) (size : Byte) (mode : Byte) (s : State) : Step :=
  .next (runBus reporting 0x10 (openOp slot size mode) s)

/-- COMMIT (R31, R32). -/
def execCommit (reporting : Bool) (s : State) : Step :=
  .next (runBus reporting 0x11 commitOp s)

/-- ABORT (R36). -/
def execAbort (reporting : Bool) (s : State) : Step :=
  .next (runBus reporting 0x12 abortOp s)

/-- ERASE (R9, R10). -/
def execErase (reporting : Bool) (slot : Byte) (s : State) : Step :=
  .next (runBus reporting 0x13 (eraseOp slot) s)

/-- VERIFY (R11, R12). -/
def execVerify (reporting : Bool) (slot : Byte) (s : State) : Step :=
  .next (runBus reporting 0x14 (verifyOp slot) s)

end Sys2Proof.Machine
end

