-- ==== Sys2Proof/Machine/Arrivals.lean ====
section
/-! DEFINITION. The meanings of the arrivals of time, supply and reset (R8, R12, R27, R33, R50, R82, R94, R96, R116, R126, R143, R147 to R149, R188 to R192). -/

namespace Sys2Proof.Machine

/-- A rise of the main supply (R190). -/
def execMainSupplyRise (s : State) : Step := .next (supplyRise s)

/-- A fall of the main supply (R191). -/
def execMainSupplyFall (s : State) : Step := .next (supplyFall s)

/-- The assertion of RESET (R192). -/
def execBusReset (s : State) : Step := .next (busResetOp s)

/-- The release of RESET (R192). -/
def execResetRelease (s : State) : Step := .next (resetReleaseOp s)

/-- The backup supply falling below 1.5 V (R188). -/
def execRetentionLoss (s : State) : Step := .next (retentionLossOp s)

/-- A second arrival (R49, R50, R82). -/
def execSecondArrival (s : State) : Step := .next (secondArrivalOp s)

/-- A frame arrival (R96, R126). -/
def execFrameArrival (envelopeFirst : BitVec 6) (s : State) : Step := .next (frameArrivalOp envelopeFirst s)

/-- A tick (R147, R148). -/
def execTick (s : State) : Step := .next (tickOp s)

/-- The expiry of a table voice's countdown (R92, R94). -/
def execVoiceStep (voice : Fin 5) (s : State) : Step := .next (voiceExpiry voice s)

/-- The expiry of voice 5's countdown (R92, R116). -/
def execStreamStep (s : State) : Step := .next (streamExpiry s)

/-- An envelope count reaching E × 512 frames (R96). -/
def execEnvelopeMove (voice : Fin 6) (s : State) : Step := .next (envelopeExpiry voice s)

/-- A COUNTDOWN entry's seconds reaching 0 (R82). -/
def execCountdownExpiry (entry : Fin 8) (s : State) : Step := .next (countdownExpiryOp entry s)

/-- A page of the walk in flight (R8). -/
def execWalkPage (s : State) : Step := .next (walkPageOp s)

/-- The completion of the fill walk (R27). -/
def execFillWalkDone (s : State) : Step := .next (fillWalkDoneOp s)

/-- The completion of the check walk (R33). -/
def execCheckWalkDone (s : State) : Step := .next (checkWalkDoneOp s)

/-- The completion of the VERIFY walk (R12). -/
def execVerifyWalkDone (s : State) : Step := .next (verifyWalkDoneOp s)

/-- The step time left reaching 0 (R147). -/
def execPatternStepEnd (s : State) : Step := .next (patternStepEndOp s)

/-- The run counter reaching the run limit (R149). -/
def execRestBegin (s : State) : Step := .next (restBeginOp s)

/-- The rest time left reaching 0 (R149). -/
def execRestEnd (s : State) : Step := .next (restEndOp s)

/-- The start of a MOTOR period (R143). -/
def execMotorPeriod (s : State) : Step := .next (motorPeriodOp s)

end Sys2Proof.Machine
end

