-- ==== Sys2Proof/Machine/GameCommands.lean ====
section
/-! DEFINITION. The meanings of the main-bus commands of calendar, voices, ring, mixer and rumble (R65 to R68, R93 to R104, R117 to R120, R133, R134, R144 to R150). -/

namespace Sys2Proof.Machine

/-- DAY START (R65). -/
def execDayStart (reporting : Bool) (hour : Byte) (minute : Byte) (s : State) : Step :=
  .next (runBus reporting 0x21 (dayStartOp hour minute) s)

/-- CATCH-UP LIMIT (R67). -/
def execCatchUpLimit (reporting : Bool) (limit : Half) (s : State) : Step :=
  .next (runBus reporting 0x22 (catchUpLimitOp limit) s)

/-- REBASE (R68). -/
def execRebase (reporting : Bool) (day : Half) (s : State) : Step :=
  .next (runBus reporting 0x23 (rebaseOp day) s)

/-- VOICE SET (R98). -/
def execVoiceSet (reporting : Bool) (voice : Byte) (code : Byte) (start : Byte) (loop : Byte) (flags : Byte) (s : State) : Step :=
  .next (runBus reporting 0x30 (voiceSetOp voice code start loop flags) s)

/-- VOICE START (R99, R118). -/
def execVoiceStart (reporting : Bool) (mask : Byte) (s : State) : Step :=
  .next (runBus reporting 0x31 (voiceStartOp mask) s)

/-- VOICE STOP (R100, R119). -/
def execVoiceStop (reporting : Bool) (mask : Byte) (s : State) : Step :=
  .next (runBus reporting 0x32 (voiceStopOp mask) s)

/-- VOICE PITCH (R93). -/
def execVoicePitch (reporting : Bool) (voice : Byte) (divider : Half) (detune : Byte) (s : State) : Step :=
  .next (runBus reporting 0x33 (voicePitchOp voice divider detune) s)

/-- VOICE LEVEL (R97). -/
def execVoiceLevel (reporting : Bool) (voice : Byte) (volume : Byte) (direction : Byte) (period : Byte) (s : State) : Step :=
  .next (runBus reporting 0x34 (voiceLevelOp voice volume direction period) s)

/-- WAVE LAYOUT (R104). -/
def execWaveLayout (reporting : Bool) (layout : Byte) (s : State) : Step :=
  .next (runBus reporting 0x35 (waveLayoutOp layout) s)

/-- RING SET (R117). -/
def execRingSet (reporting : Bool) (mark : Byte) (s : State) : Step :=
  .next (runBus reporting 0x36 (ringSetOp mark) s)

/-- RING FLUSH (R120). -/
def execRingFlush (reporting : Bool) (s : State) : Step :=
  .next (runBus reporting 0x37 ringFlushOp s)

/-- MIX SET (R133). -/
def execMixSet (reporting : Bool) (volume : Byte) (rounding : Byte) (enable : Byte) (s : State) : Step :=
  .next (runBus reporting 0x38 (mixSetOp volume rounding enable) s)

/-- CLIP CLEAR (R134). -/
def execClipClear (reporting : Bool) (s : State) : Step :=
  .next (runBus reporting 0x39 clipClearOp s)

/-- RUMBLE DIRECT (R144). -/
def execRumbleDirect (reporting : Bool) (level : Byte) (s : State) : Step :=
  .next (runBus reporting 0x40 (rumbleDirectOp level) s)

/-- RUMBLE PATTERN (R146). -/
def execRumblePattern (reporting : Bool) (pattern : Byte) (repeats : Byte) (s : State) : Step :=
  .next (runBus reporting 0x41 (rumblePatternOp pattern repeats) s)

/-- RUMBLE LINK (R145). -/
def execRumbleLink (reporting : Bool) (voice : Byte) (s : State) : Step :=
  .next (runBus reporting 0x42 (rumbleLinkOp voice) s)

/-- RUMBLE STOP (R144). -/
def execRumbleStop (reporting : Bool) (s : State) : Step :=
  .next (runBus reporting 0x43 rumbleStopOp s)

/-- RUMBLE LIMIT (R150). -/
def execRumbleLimit (reporting : Bool) (seconds : Byte) (s : State) : Step :=
  .next (runBus reporting 0x44 (rumbleLimitOp seconds) s)

end Sys2Proof.Machine
end

