-- ==== Sys2Proof/Machine/PortBytes.lean ====
section
/-! DEFINITION. The meanings of the bytes and edges of the two ports (R170, R171, R176, R177, R179, R180). -/

namespace Sys2Proof.Machine

/-- A write to the command port (R170). -/
def execCommandPortWrite (byte : Byte) (s : State) : Step := .next (commandWrite byte s)

/-- A write of an unknown code to the command port: refused NO-SUCH at once (R170, R183). -/
def execUnknownCommand (byte : Byte) (s : State) : Step := .next (commandWrite byte s)

/-- A write to the data port while a command is pending (R171). -/
def execParameterByteWrite (byte : Byte) (s : State) : Step := .next (dataPortWrite byte s)

/-- A write to the data port (R176). -/
def execDataWrite (byte : Byte) (s : State) : Step := .next (dataPortWrite byte s)

/-- A read of the data port (R171, R177). -/
def execDataRead (s : State) : Step := .next (dataPortRead s)

/-- The assertion of SLSEL, and the bits clocked in after it (R179). -/
def execSlselAssertion (clocked : List Bool) (s : State) : Step := .next (clockBits clocked (assertSelect s))

/-- The release of SLSEL (R179). -/
def execSlselRelease (s : State) : Step := .next (releaseSelect s)

/-- What a request byte alone does when it is the first of a frame: nothing but its refusal when it is no
request; a request with no parameters is taken; another waits for its parameters, and a frame that ends there
is discarded. In any other place of a frame it is a byte like another (R179, R180). -/
def receiveRequest (byte : Byte) (s : State) : State :=
  if s.power = .off then s
  else
    match s.side.frame with
    | .idle => releaseSelect (readOut (clockIn [byte] (assertSelect s)))
    | _ => clockIn [byte] s

/-- A request byte that is no request: refused NO-SUCH at once (R180, R183). -/
def execUnknownRequest (byte : Byte) (s : State) : Step := .next (receiveRequest byte s)

end Sys2Proof.Machine
end

