-- ==== Sys2Proof/Machine/SharedCommands.lean ====
section
/-! DEFINITION. The meanings of the commands both ports know and of the side link's own requests (R182, R183, R38, R41, R43, R54, R76, R78, R109, R163 to R166, R181, R186, R187). -/

namespace Sys2Proof.Machine

/-- HOLD (R37, R38, R40; refused PRIVILEGE on the main bus). -/
def execHold (issuer : Issuer) (mode : Byte) (s : State) : Step :=
  match issuer with
  | .game r => .next (runBus r 0x15 privileged s)
  | .system => .next (runLink [0x15, mode] (fun t => noData (holdOp mode t)) s)

/-- RELEASE (R41; refused PRIVILEGE on the main bus). -/
def execRelease (issuer : Issuer) (s : State) : Step :=
  match issuer with
  | .game r => .next (runBus r 0x16 privileged s)
  | .system => .next (runLink [0x16] (fun t => noData (releaseOp t)) s)

/-- SLOT READ, a request of the side link alone (R43). -/
def execSlotRead (slot : Byte) (offset : Half) (count : Byte) (s : State) : Step :=
  .next (runLink [0x17, slot, Half.hi offset, Half.lo offset, count] (slotReadOp slot offset count) s)

/-- CLOCK SET (R54 to R59; refused PRIVILEGE on the main bus). -/
def execClockSet (issuer : Issuer) (year : Byte) (month : Byte) (day : Byte) (hour : Byte) (minute : Byte) (second : Byte) (s : State) : Step :=
  match issuer with
  | .game r => .next (runBus r 0x20 privileged s)
  | .system => .next (runLink [0x20, year, month, day, hour, minute, second] (fun t => noData (clockSetOp year month day hour minute second t)) s)

/-- ALARM ARM, judged against its issuer (R76, R77). -/
def execAlarmArm (issuer : Issuer) (entry : Byte) (kind : Byte) (repeatCode : Byte) (action : Byte) (due1 : Byte) (due2 : Byte) (due3 : Byte) (due4 : Byte) (due5 : Byte) (due6 : Byte) (s : State) : Step :=
  match issuer with
  | .game r => .next (runBus r 0x24 (alarmArmOp .game entry kind repeatCode action due1 due2 due3 due4 due5 due6) s)
  | .system => .next (runLink [0x24, entry, kind, repeatCode, action, due1, due2, due3, due4, due5, due6] (fun t => noData (alarmArmOp .system entry kind repeatCode action due1 due2 due3 due4 due5 due6 t)) s)

/-- ALARM DISARM, judged against its issuer (R78). -/
def execAlarmDisarm (issuer : Issuer) (entry : Byte) (s : State) : Step :=
  match issuer with
  | .game r => .next (runBus r 0x25 (alarmDisarmOp .game entry) s)
  | .system => .next (runLink [0x25, entry] (fun t => noData (alarmDisarmOp .system entry t)) s)

/-- SILENCE (R109, R122, R137, R153; refused PRIVILEGE on the main bus). -/
def execSilence (issuer : Issuer) (s : State) : Step :=
  match issuer with
  | .game r => .next (runBus r 0x3A privileged s)
  | .system => .next (runLink [0x3A] (fun t => noData (silenceOp t)) s)

/-- EVENT ACK, on its issuer's record (R163). -/
def execEventAck (issuer : Issuer) (s : State) : Step :=
  match issuer with
  | .game r => .next (runBus r 0x50 (eventAckOp .game) s)
  | .system => .next (runLink [0x50] (fun t => noData (eventAckOp .system t)) s)

/-- EVENT ACK LOST, on its issuer's record (R164). -/
def execEventAckLost (issuer : Issuer) (s : State) : Step :=
  match issuer with
  | .game r => .next (runBus r 0x51 (eventAckLostOp .game) s)
  | .system => .next (runLink [0x51] (fun t => noData (eventAckLostOp .system t)) s)

/-- EVENT MASK, on its issuer's record (R165). -/
def execEventMask (issuer : Issuer) (mask1 : Byte) (mask2 : Byte) (mask3 : Byte) (s : State) : Step :=
  match issuer with
  | .game r => .next (runBus r 0x52 (eventMaskOp .game mask1 mask2 mask3) s)
  | .system => .next (runLink [0x52, mask1, mask2, mask3] (fun t => noData (eventMaskOp .system mask1 mask2 mask3 t)) s)

/-- LINE ENABLE, on its issuer's record (R166). -/
def execLineEnable (issuer : Issuer) (enable : Byte) (s : State) : Step :=
  match issuer with
  | .game r => .next (runBus r 0x53 (lineEnableOp .game enable) s)
  | .system => .next (runLink [0x53, enable] (fun t => noData (lineEnableOp .system enable t)) s)

/-- BATTERY (R187; refused PRIVILEGE on the main bus). -/
def execBattery (issuer : Issuer) (state : Byte) (s : State) : Step :=
  match issuer with
  | .game r => .next (runBus r 0x60 privileged s)
  | .system => .next (runLink [0x60, state] (fun t => noData (batteryOp state t)) s)

/-- POWER MODE (R186; refused PRIVILEGE on the main bus). -/
def execPowerMode (issuer : Issuer) (mode : Byte) (s : State) : Step :=
  match issuer with
  | .game r => .next (runBus r 0x61 privileged s)
  | .system => .next (runLink [0x61, mode] (fun t => noData (powerModeOp mode t)) s)

/-- READ RECORD, a request of the side link alone (R181). -/
def execReadRecord (record index : Byte) (s : State) : Step :=
  .next (runLink [0x62, record, index] (readRecordOp record index) s)

end Sys2Proof.Machine
end

