-- ==== Sys2Proof/Machine/Dispatch.lean ====
section
/-! DEFINITION. One arm per command, in the order of spec/opcode_table.json. -/

namespace Sys2Proof.Machine

def exec (i : Instr) (s : State) : Host.Outcome State Fault Refusal :=
  match i with
  | .select reporting target index address => Sys2Proof.Machine.execSelect reporting target index address s
  | .entry reporting direction => Sys2Proof.Machine.execEntry reporting direction s
  | .statusClear reporting => Sys2Proof.Machine.execStatusClear reporting s
  | .openTxn reporting slot size mode => Sys2Proof.Machine.execOpenTxn reporting slot size mode s
  | .commit reporting => Sys2Proof.Machine.execCommit reporting s
  | .abort reporting => Sys2Proof.Machine.execAbort reporting s
  | .erase reporting slot => Sys2Proof.Machine.execErase reporting slot s
  | .verify reporting slot => Sys2Proof.Machine.execVerify reporting slot s
  | .hold issuer mode => Sys2Proof.Machine.execHold issuer mode s
  | .release issuer => Sys2Proof.Machine.execRelease issuer s
  | .slotRead slot offset count => Sys2Proof.Machine.execSlotRead slot offset count s
  | .clockSet issuer year month day hour minute second => Sys2Proof.Machine.execClockSet issuer year month day hour minute second s
  | .dayStart reporting hour minute => Sys2Proof.Machine.execDayStart reporting hour minute s
  | .catchUpLimit reporting limit => Sys2Proof.Machine.execCatchUpLimit reporting limit s
  | .rebase reporting day => Sys2Proof.Machine.execRebase reporting day s
  | .alarmArm issuer entry kind repeatCode action due1 due2 due3 due4 due5 due6 => Sys2Proof.Machine.execAlarmArm issuer entry kind repeatCode action due1 due2 due3 due4 due5 due6 s
  | .alarmDisarm issuer entry => Sys2Proof.Machine.execAlarmDisarm issuer entry s
  | .voiceSet reporting voice code start loop flags => Sys2Proof.Machine.execVoiceSet reporting voice code start loop flags s
  | .voiceStart reporting mask => Sys2Proof.Machine.execVoiceStart reporting mask s
  | .voiceStop reporting mask => Sys2Proof.Machine.execVoiceStop reporting mask s
  | .voicePitch reporting voice divider detune => Sys2Proof.Machine.execVoicePitch reporting voice divider detune s
  | .voiceLevel reporting voice volume direction period => Sys2Proof.Machine.execVoiceLevel reporting voice volume direction period s
  | .waveLayout reporting layout => Sys2Proof.Machine.execWaveLayout reporting layout s
  | .ringSet reporting mark => Sys2Proof.Machine.execRingSet reporting mark s
  | .ringFlush reporting => Sys2Proof.Machine.execRingFlush reporting s
  | .mixSet reporting volume rounding enable => Sys2Proof.Machine.execMixSet reporting volume rounding enable s
  | .clipClear reporting => Sys2Proof.Machine.execClipClear reporting s
  | .silence issuer => Sys2Proof.Machine.execSilence issuer s
  | .rumbleDirect reporting level => Sys2Proof.Machine.execRumbleDirect reporting level s
  | .rumblePattern reporting pattern repeats => Sys2Proof.Machine.execRumblePattern reporting pattern repeats s
  | .rumbleLink reporting voice => Sys2Proof.Machine.execRumbleLink reporting voice s
  | .rumbleStop reporting => Sys2Proof.Machine.execRumbleStop reporting s
  | .rumbleLimit reporting seconds => Sys2Proof.Machine.execRumbleLimit reporting seconds s
  | .eventAck issuer => Sys2Proof.Machine.execEventAck issuer s
  | .eventAckLost issuer => Sys2Proof.Machine.execEventAckLost issuer s
  | .eventMask issuer mask1 mask2 mask3 => Sys2Proof.Machine.execEventMask issuer mask1 mask2 mask3 s
  | .lineEnable issuer enable => Sys2Proof.Machine.execLineEnable issuer enable s
  | .battery issuer state => Sys2Proof.Machine.execBattery issuer state s
  | .powerMode issuer mode => Sys2Proof.Machine.execPowerMode issuer mode s
  | .readRecord record index => Sys2Proof.Machine.execReadRecord record index s
  | .unknownCommand byte => Sys2Proof.Machine.execUnknownCommand byte s
  | .unknownRequest byte => Sys2Proof.Machine.execUnknownRequest byte s
  | .dataWrite byte => Sys2Proof.Machine.execDataWrite byte s
  | .dataRead => Sys2Proof.Machine.execDataRead s
  | .slselRelease => Sys2Proof.Machine.execSlselRelease s
  | .mainSupplyRise => Sys2Proof.Machine.execMainSupplyRise s
  | .mainSupplyFall => Sys2Proof.Machine.execMainSupplyFall s
  | .busReset => Sys2Proof.Machine.execBusReset s
  | .resetRelease => Sys2Proof.Machine.execResetRelease s
  | .retentionLoss => Sys2Proof.Machine.execRetentionLoss s
  | .secondArrival => Sys2Proof.Machine.execSecondArrival s
  | .frameArrival envelopeFirst => Sys2Proof.Machine.execFrameArrival envelopeFirst s
  | .tick => Sys2Proof.Machine.execTick s
  | .voiceStep voice => Sys2Proof.Machine.execVoiceStep voice s
  | .streamStep => Sys2Proof.Machine.execStreamStep s
  | .envelopeMove voice => Sys2Proof.Machine.execEnvelopeMove voice s
  | .countdownExpiry entry => Sys2Proof.Machine.execCountdownExpiry entry s
  | .walkPage => Sys2Proof.Machine.execWalkPage s
  | .fillWalkDone => Sys2Proof.Machine.execFillWalkDone s
  | .checkWalkDone => Sys2Proof.Machine.execCheckWalkDone s
  | .verifyWalkDone => Sys2Proof.Machine.execVerifyWalkDone s
  | .patternStepEnd => Sys2Proof.Machine.execPatternStepEnd s
  | .restBegin => Sys2Proof.Machine.execRestBegin s
  | .restEnd => Sys2Proof.Machine.execRestEnd s
  | .motorPeriod => Sys2Proof.Machine.execMotorPeriod s
  | .commandPortWrite byte => Sys2Proof.Machine.execCommandPortWrite byte s
  | .parameterByteWrite byte => Sys2Proof.Machine.execParameterByteWrite byte s
  | .slselAssertion clocked => Sys2Proof.Machine.execSlselAssertion clocked s

end Sys2Proof.Machine
end

