-- ==== Sys2Proof/Safety.lean ====
section
/-! DEFINITION. The words the claims are stated in: ports that are ready, what a report adds, the first check that fails, and for each block the invariant that every step keeps. -/

namespace Sys2Proof.Safety

open Sys2Proof.Machine

/-! ### Runs of commands -/

/-- The state a command leaves; the state itself where the command stopped the machine. -/
def after (c : Instr) (s : State) : State :=
  match exec c s with
  | .next t => t
  | .fault _ => s
  | .refused _ => s

/-- The state a run of commands leaves. -/
def afterAll (cs : List Instr) (s : State) : State := cs.foldl (fun t c => after c t) s

/-! ### Ports and reports -/

/-- The main bus port takes a command byte at once: the main supply is present, RESET is released and no
command is pending (R169, R190, R192). -/
abbrev busReady (s : State) : Prop := s.power ≠ .off ∧ s.resetPin = false ∧ s.port.command = none

/-- A frame has begun on the side link and nothing of it has been received (R179). -/
abbrev linkReady (s : State) : Prop := s.power ≠ .off ∧ s.side.frame = .receiving [] []

/-- The command is a strobe of the main bus port: a command byte alone, a whole command, or a data-port access. -/
def isBusStrobe (i : Instr) : Bool :=
  match i with
  | .commandPortWrite _ => true
  | .unknownCommand _ => true
  | .parameterByteWrite _ => true
  | .dataWrite _ => true
  | .dataRead => true
  | _ => i.busBytes.isSome

/-- The command begins with a write to the command port. -/
def isCommandByte (i : Instr) : Bool :=
  match i with
  | .commandPortWrite _ => true
  | .unknownCommand _ => true
  | _ => i.busBytes.isSome

/-- The command is an arrival on the side link that carries bytes. -/
def isLinkArrival (i : Instr) : Bool :=
  match i with
  | .unknownRequest _ => true
  | .slselAssertion _ => true
  | _ => i.linkBytes.isSome

/-- What the report of outcome `o` for a command of code `code` adds (R172): the outcome field in reporting
form; for a refusal the summary and REFUSED; for CLAMPED the event with the code as its detail. -/
def reported (reporting : Bool) (code : Byte) (o : OutcomeCode) (s : State) : State :=
  { s with
    port := { s.port with
      outcome := if reporting then o else s.port.outcome
      summary := s.port.summary || o.isRefusal }
    gameEvents :=
      if o.isRefusal then s.gameEvents.post .refused o.code
      else if o = .clamped then s.gameEvents.post .clamped code
      else s.gameEvents }

/-- What a reply of outcome `o` and `data` adds (R179, R180): the request of the frame is taken, a refused
one replies with its outcome alone and posts REFUSED to the system queue. -/
def replied (o : OutcomeCode) (data : List Byte) (s : State) : State :=
  { s with
    side := { s.side with frame := .taken (o.code :: (if o.isRefusal then [] else data)) }
    systemEvents := if o.isRefusal then s.systemEvents.post .refused o.code else s.systemEvents }

/-- The reply the part owes in the frame in progress; empty before the request is taken (R179). -/
def replyOf (s : State) : List Byte :=
  match s.side.frame with
  | .taken reply => reply
  | _ => []

/-- What a refused data-port access adds (R172): summary and REFUSED, and not the outcome field. -/
def accessRefused (o : OutcomeCode) (s : State) : State :=
  { s with port := { s.port with summary := true }, gameEvents := s.gameEvents.post .refused o.code }

/-- The outcome of the first check that fails, in the order of a rule's table; OK when none does. -/
def firstOutcome (checks : List (Bool × OutcomeCode)) : OutcomeCode :=
  match checks with
  | [] => .ok
  | (failed, o) :: rest => if failed then o else firstOutcome rest

/-- The counter after one move in the direction of ENTRY, in a target of `size` bytes (R175). -/
def movedCounter (s : State) (size : Nat) : Nat :=
  (s.port.counter % size + (if s.port.descending then size - 1 else 1)) % size

/-! ### Save Store and Transaction Unit -/

/-- The slot record a slot parameter names; none for a FREE slot and for a number that names no slot. -/
def slotAt (s : State) (b : Byte) : Option SlotData := (s.slots[b.toNat]?).getD none

/-- A roll-back with its COMMIT_FAIL (R35, R36, R38): the staging pages in the pool, no transaction, the note written. -/
def rolledBack (kind : EndKind) (t : Txn) (s : State) : State :=
  { joinPool t.staging s with
    txn := none, note := .ended kind t.slot
    gameEvents := s.gameEvents.post .commitFail (BitVec.ofNat 8 t.slot.val) }

/-- A hold granted (R39): HELD with its mode, HOLD with detail 1 to both queues. -/
def granted (m : HoldMode) (s : State) : State :=
  { s with hold := .held m, gameEvents := s.gameEvents.post .hold 1, systemEvents := s.systemEvents.post .hold 1 }

/-- The data of a page list: all its bytes, page after page (R7). -/
def dataOf (m : Memory) (ps : List Page) : List Byte :=
  (List.range (ps.length * Config.pageSize)).map (listByte m ps)

/-- The sums A and B after some bytes (R7): each byte makes A the rest of A + b by 255 and B the rest of B + A by 255. -/
def sumsOf (ab : Nat × Nat) (data : List Byte) : Nat × Nat :=
  data.foldl (fun ab b => ((ab.1 + b.toNat) % 255, (ab.2 + (ab.1 + b.toNat) % 255) % 255)) ab

/-- The check of sums A and B: B in the high byte, A in the low (R7). -/
def checkOfSums (ab : Nat × Nat) : BitVec 16 := BitVec.ofNat 16 (ab.2 * 256 + ab.1)

/-- The check of a slot's data, taken in one pass from sums of 0 (R7). -/
def checkOf (data : List Byte) : BitVec 16 := checkOfSums (sumsOf (0, 0) data)

/-- The end of a walk at the hold (R39): a hold that waited is granted with its mode, and an OPEN transaction suspended. -/
def grantedAtEnd (s : State) : State :=
  match s.hold with
  | .pending m =>
    { s with
      hold := .held m, gameEvents := s.gameEvents.post .hold 1, systemEvents := s.systemEvents.post .hold 1
      txn := s.txn.map fun t => match t.phase with | .opened _ => { t with phase := .opened true } | _ => t }
  | _ => s

/-- The commit switch of transaction `t` with a check (R33): one update of slot record, pool, transaction and note. -/
def switched (t : Txn) (check : BitVec 16) (s : State) : State :=
  let g := (s.slots[t.slot].map fun d => d.generation + 1).getD 0
  { joinPool (slotPages s t.slot) s with
    slots := s.slots.set t.slot.val (some {
      damaged := false, pages := t.staging, generation := g, stampDay := s.gameDay.day
      stampDate := if s.calendar = .running then some s.clock.now.date else none, check := check }) t.slot.isLt
    txn := none, walk := .none, note := .committed t.slot g
    gameEvents := s.gameEvents.post .commitDone (BitVec.ofNat 8 t.slot.val) }

/-- The end of a VERIFY walk of slot `n`, which holds `d`, with the check it computed (R12). -/
def verified (n : SlotNo) (d : SlotData) (check : BitVec 16) (s : State) : State :=
  let bad := decide (check ≠ d.check)
  { s with
    slots := s.slots.set n.val (some { d with damaged := bad }) n.isLt, walk := .none
    gameEvents := if bad then s.gameEvents.post .verifyBad (BitVec.ofNat 8 n.val) else s.gameEvents }

/-- The 512 bytes of a page. -/
def pageData (m : Memory) (p : Page) : List Byte := (List.range 512).map (pageByte m p)

/-- The staging list of the transaction; empty when there is none (R22). -/
def stagingPages (s : State) : List Page := s.txn.elim [] Txn.staging

/-- Every place a page can be in, one list after another (R4). -/
def placedPages (s : State) : List Page :=
  s.pool ++ (List.finRange 8).flatMap (slotPages s) ++ stagingPages s

/-- R4: each of the 64 pages is in exactly one of the pool, one slot's page list, or the staging list. -/
abbrev PagesPartitioned (s : State) : Prop := ∀ p : Page, (placedPages s).count p = 1

/-- A page list as R2 and R5 give it: 1 to 8 pages in ascending order. -/
abbrev pageListSound (ps : List Page) : Prop := ps.Pairwise (· < ·) ∧ 1 ≤ ps.length ∧ ps.length ≤ 8

/-- The transaction is in OPEN. -/
def Txn.isOpen (t : Txn) : Bool :=
  match t.phase with
  | .opened _ => true
  | _ => false

/-- The transaction is in SEALING. -/
def Txn.isSealing (t : Txn) : Bool :=
  match t.phase with
  | .sealing _ => true
  | _ => false

/-- R8, R22, R25, R32: a fill walk is the FILLING transaction's and a check walk the SEALING one's, with the same
progress; without either, a transaction is OPEN; a VERIFY walk is over a slot that is not FREE. -/
def walkSound (s : State) : Bool :=
  match s.walk with
  | .none => s.txn.all Txn.isOpen
  | .fill n d => s.txn.any fun t => decide (t.slot = n ∧ t.phase = .filling d ∧ d < t.staging.length)
  | .check n d a b =>
    s.txn.any fun t => decide (t.slot = n ∧ t.phase = .sealing d ∧ d < t.staging.length ∧ a < 255 ∧ b < 255)
  | .verify n d a b =>
    s.txn.all Txn.isOpen && decide (d < (slotPages s n).length ∧ a < 255 ∧ b < 255)

/-- R37 to R42: a hold waits only for a walk; while HELD no walk is in flight and an OPEN transaction is
suspended, and at no other time; a DROP leaves no transaction but one that is SEALING. -/
def holdSound (s : State) : Bool :=
  match s.hold with
  | .notHeld => s.txn.all fun t => decide (t.phase ≠ .opened true)
  | .pending m =>
    decide (s.walk ≠ .none) && s.txn.all (fun t => decide (t.phase ≠ .opened true))
      && (decide (m = .keep) || s.txn.all Txn.isSealing)
  | .held m =>
    decide (s.walk = .none) && s.txn.all (fun t => decide (t.phase = .opened true))
      && (decide (m = .keep) || decide (s.txn = none))

/-- The store's records agree with one another: page lists and pool in ascending order, check bytes in
00h to FEh (R7), walks, transaction and hold as above, and nothing of them while OFF (R45). -/
abbrev StoreSound (s : State) : Prop :=
  s.pool.Pairwise (· < ·)
    ∧ (∀ n : SlotNo, ∀ d ∈ s.slots[n], pageListSound d.pages ∧ Half.hi d.check ≠ 0xFF ∧ Half.lo d.check ≠ 0xFF)
    ∧ (∀ t ∈ s.txn, pageListSound t.staging)
    ∧ walkSound s = true ∧ holdSound s = true
    ∧ (s.power = .off → s.txn = none ∧ s.hold = .notHeld ∧ s.walk = .none)

/-- Every memory is in its canonical form and inside its address range (R1, R102, R111, R140). -/
abbrev MemoriesSound (s : State) : Prop :=
  Memory.wf Config.unwrittenPage (Config.pageCount * Config.pageSize) s.pages = true
    ∧ Memory.wf Config.unwrittenZero Config.waveSize s.waveMem = true
    ∧ Memory.wf Config.unwrittenRing Config.ringSize s.ringMem = true
    ∧ Memory.wf Config.unwrittenZero Config.patternSize s.patternMem = true

/-! ### Calendar and Alarm Table -/

/-- R47, R48, R60, R61: the clock holds an existing date and time with the weekday of its date, 2000-01-01
00:00:00 while INVALID; the game-day and setting records are in their ranges; the crystal's count is below 32,768 (R49). -/
abbrev CalendarSound (s : State) : Prop :=
  s.clock.now.valid = true ∧ s.clock.weekday = weekdayOf s.clock.now.date
    ∧ (s.calendar = .invalid → s.clock = ClockRecord.initial)
    ∧ s.gameDay.day ≤ 65535 ∧ s.gameDay.debt ≤ 1023 ∧ s.gameDay.startHour ≤ 23 ∧ s.gameDay.startMinute ≤ 59
    ∧ s.gameDay.catchUp ≤ 255
    ∧ s.setting.found ≤ 36525 ∧ s.setting.applied ≤ 255 ∧ s.setting.applied ≤ s.setting.found
    ∧ s.setting.advanced ≤ s.setting.applied ∧ s.setting.debtAdded ≤ 1023
    ∧ s.crystal < 32768

/-- The due and repeat an entry may hold in its state (R73, R82, R84, R85). -/
def dueSound (state : AlarmState) (due : AlarmDue) : Bool :=
  match due with
  | .real t r => t.valid && decide (state = .spent → r = .none)
  | .game d every => decide (d ≤ 65535 ∧ every ≤ 255)
  | .countdown n r =>
    decide (n ≤ 65535 ∧ (state = .armed → 1 ≤ n) ∧ (state = .spent → n = 0 ∧ r = none))
      && r.all fun v => decide (1 ≤ v ∧ v ≤ 65535)

/-- Every alarm entry is in its ranges (R73); missed counts fires made while OFF and is 0 otherwise (R83, R89). -/
abbrev AlarmsSound (s : State) : Prop :=
  ∀ e : Fin 8, ∀ a ∈ s.alarms[e],
    dueSound a.state a.due = true ∧ a.missed ≤ 15 ∧ (s.power ≠ .off → a.missed = 0)

/-- The due ALARM ARM's parameters give (R76): kind 00h REAL, 01h GAME, 02h COUNTDOWN. -/
def sentDue (kind rep b1 b2 b3 b4 b5 b6 : Byte) : AlarmDue :=
  match kind.toNat with
  | 0 =>
    .real
      { date := { year := b1.toNat, month := b2.toNat, day := b3.toNat }
        hour := b4.toNat, minute := b5.toNat, second := b6.toNat }
      (match rep.toNat with | 1 => .daily | 2 => .weekly | _ => .none)
  | 1 => .game (b1.toNat * 256 + b2.toNat) rep.toNat
  | _ => .countdown (b1.toNat * 256 + b2.toNat) (if rep = 0x01 then some (b3.toNat * 256 + b4.toNat) else none)

/-- The checks of ALARM ARM on its own parameters, in the order of R76, after the entry number and the owner. -/
def armChecks (kind rep action b1 b2 b3 b4 b5 b6 : Byte) : List (Bool × OutcomeCode) :=
  [(decide (2 < kind.toNat), .range),
    (decide (kind = 0x00 ∧ 2 < rep.toNat ∨ kind = 0x02 ∧ 1 < rep.toNat), .range),
    (decide (3 < action.toNat ∧ action ≠ 0xFF), .noSuch),
    (decide (kind = 0x00) && !(DateTime.valid
      { date := { year := b1.toNat, month := b2.toNat, day := b3.toNat }
        hour := b4.toNat, minute := b5.toNat, second := b6.toNat }), .range),
    (decide (kind = 0x02 ∧ (b1.toNat * 256 + b2.toNat = 0 ∨ rep = 0x01 ∧ b3.toNat * 256 + b4.toNat = 0)), .range)]

/-- The alarm entry a byte names; none for a FREE entry and for a number that names no entry. -/
def alarmAt (s : State) (b : Byte) : Option AlarmEntry := (s.alarms[b.toNat]?).getD none

/-- Seconds from a clock time forward to a due, strictly after it, along the clock's run across the wrap (R79, R84). -/
def secondsUntil (now due : DateTime) : Nat := (instant due + 3155760000 - instant now - 1) % 3155760000 + 1

/-- Every event of a list posted to one queue, in order (R158). -/
def posted (es : List (EventKind × Byte)) (q : EventRecord) : EventRecord := es.foldl (fun q e => q.post e.1 e.2) q

/-- An ARMED entry whose due meets a test. -/
def armedWhere (test : AlarmDue → Bool) (s : State) (e : Fin 8) : Bool :=
  s.alarms[e].any fun a => decide (a.state = .armed) && test a.due

/-- What the fires of entries bring to master `m`'s queue (R83, R146): ALARM for each entry it owns, and for the game,
in ACTIVE, RUMBLE_END after an entry whose action's pattern is empty. -/
def firePosts (m : Master) (s : State) (es : List (Fin 8)) : List (EventKind × Byte) :=
  es.flatMap fun e => match s.alarms[e] with
    | none => []
    | some a =>
      (if a.owner = m then [(EventKind.alarm, BitVec.ofNat 8 e.val)] else [])
        ++ match a.action with
          | none => []
          | some p =>
            if m = .game ∧ s.power = .active ∧ stepDuration s p 0 = 0 then [(EventKind.rumbleEnd, BitVec.ofNat 8 p.val)] else []

/-- A master's queue after a list of posts: the whole list, or nothing without the main supply (R158, R185). -/
def queueAfter (s : State) (es : List (EventKind × Byte)) (q : EventRecord) : EventRecord :=
  if s.power = .off then q else posted es q

/-- The command is the taking of a REBASE (R68, R171): its row, or the data-port write that is its last parameter. -/
def takesRebase (c : Instr) (s : State) : Bool :=
  let last := s.port.command.any fun p => decide (commandCode p.byte = 0x23 ∧ p.needed ≤ p.received.length + 1)
  match c with
  | .rebase _ _ => true
  | .parameterByteWrite _ => last
  | .dataWrite _ => last
  | _ => false

/-- R79: entry `e` with due `x` stands before entry `f` with due `y`: GAME before REAL before COUNTDOWN, then by game
day, by seconds from now forward, by seconds left, then by entry number. -/
def dueBefore (now : DateTime) (e : Fin 8) (x : AlarmDue) (f : Fin 8) (y : AlarmDue) : Prop :=
  let forward (t : DateTime) := (instant t + 3155760000 - instant now) % 3155760000
  match x, y with
  | .game m _, .game n _ => m < n ∨ m = n ∧ e < f
  | .real t _, .real u _ => forward t < forward u ∨ forward t = forward u ∧ e < f
  | .countdown m _, .countdown n _ => m < n ∨ m = n ∧ e < f
  | .game _ _, _ => True
  | .real _ _, .countdown _ _ => True
  | _, _ => False

/-- What a second arrival that leads from `s` to `t` makes of an alarm entry (R80, R81, R82): a SPENT entry is left; a
COUNTDOWN falls by one and fires at 0; a GAME entry fires when a turn has brought the game day to its due; a
REAL entry fires when the clock has reached its due. -/
def alarmAfterSecond (s t : State) (a : AlarmEntry) : AlarmEntry :=
  let fires (x : AlarmEntry) := x.fired s.power t.clock.now t.gameDay.day
  match a.state, a.due with
  | .spent, _ => a
  | .armed, .countdown n r =>
    if n ≤ 1 then fires { a with due := .countdown 0 r } else { a with due := .countdown (n - 1) r }
  | .armed, .game d _ => if s.gameDay.day < t.gameDay.day ∧ d ≤ t.gameDay.day then fires a else a
  | .armed, .real x _ => if s.calendar = .running ∧ instant x = instant t.clock.now then fires a else a

/-- What a clock setting that leads from `s` to `t` makes of an alarm entry (R86): REAL entries whose due the clock has
passed fire, GAME entries that a changed game day has reached fire, every other entry is left. -/
def alarmAfterSetting (s t : State) (a : AlarmEntry) : AlarmEntry :=
  let fires (x : AlarmEntry) := x.fired s.power t.clock.now t.gameDay.day
  match a.state, a.due with
  | .spent, _ => a
  | .armed, .countdown _ _ => a
  | .armed, .game d _ => if s.gameDay.day < t.gameDay.day ∧ d ≤ t.gameDay.day then fires a else a
  | .armed, .real x _ =>
    if (s.calendar = .invalid ∨ instant s.clock.now < instant x) ∧ instant x ≤ instant t.clock.now then fires a else a

/-! ### Voices, ring and mixer -/

/-- R90, R93: the divider's ranges, and D' from D and the detune. -/
abbrev dividerSound (d : Divider) : Prop :=
  d.d ≤ 2047 ∧ d.effective = effectiveDivider d.d d.detune ∧ d.countdown ≤ 2047

/-- R90, R96: the envelope's ranges; the count is below E × 512 while the envelope is active and 0 while not. -/
abbrev envelopeSound (e : Envelope) : Prop :=
  e.volume ≤ 15 ∧ e.period ≤ 7 ∧ (if e.active then e.count < e.period * 512 else e.count = 0)

/-- R90, R91, R108: every voice record is in its ranges; a STOPPED voice's sample is 0; voices play in ACTIVE
and are paused in SLEEP only. -/
abbrev VoicesSound (s : State) : Prop :=
  (∀ v : Fin 5,
    s.voices[v].code ≤ 31 ∧ s.voices[v].start ≤ 255 ∧ s.voices[v].loopPosition ≤ 255 ∧ s.voices[v].position ≤ 63
      ∧ dividerSound s.voices[v].divider ∧ envelopeSound s.voices[v].envelope
      ∧ (s.voices[v].state = .stopped → s.voices[v].sample = 0x00)
      ∧ (s.voices[v].state = .playing → s.power = .active)
      ∧ (s.voices[v].state = .paused → s.power = .sleep))
    ∧ dividerSound s.voice5.divider ∧ envelopeSound s.voice5.envelope

/-- The 15-bit generator of a noise waveform before sample `i` (R106): seeded with code - 23; at each sample the exclusive-or
of its two lowest bits enters at the top as it is shifted down. -/
def noiseGenerator (code i : Nat) : BitVec 15 :=
  match i with
  | 0 => BitVec.ofNat 15 (code - 23)
  | n + 1 =>
    let x := noiseGenerator code n
    BitVec.ofBool (x.getLsbD 0 != x.getLsbD 1) ++ x.extractLsb' 1 14

/-- A step ends the voice: it stands at the last sample and does not loop (R94). -/
def stepEnds (s : State) (x : TableVoice) : Bool :=
  decide (waveLength s.layout x.code ≤ x.position % waveLength s.layout x.code + 1) && !x.loop

/-- A table voice after a step, the countdown reloaded (R92, R94). -/
def steppedVoice (s : State) (x : TableVoice) : TableVoice :=
  let y := { x with divider := { x.divider with countdown := x.divider.effective } }
  let len := waveLength s.layout x.code
  let p := x.position % len
  let q := x.loopPosition % len
  if p < len - 1 then { y with position := p + 1, sample := waveSample s x.code (p + 1) }
  else if x.loop then { y with position := q, sample := waveSample s x.code q }
  else { y with position := p, sample := 0x00, state := .stopped }

/-- A divider's countdown one engine clock later (R92). -/
def countedDown (d : Divider) : Divider := { d with countdown := d.countdown - 1 }

/-- The stream is waiting for 256 bytes, or was when it was paused (R113). -/
def StreamState.waiting (r : StreamState) : Bool :=
  match r with
  | .run .priming => true
  | .run .starved => true
  | .paused .priming => true
  | .paused .starved => true
  | _ => false

/-- The stored bytes not yet played, in the order they were stored (R112). -/
def unplayed (s : State) : List Byte :=
  (List.range s.ring.level).map fun i => Memory.read Config.unwrittenRing s.ringMem ((s.ring.play + i) % 2048)

/-- The envelope after a move in its direction (R96). -/
def movedEnvelope (e : Envelope) : Envelope :=
  { e with
    count := 0
    volume := match e.direction with
      | .up => if e.volume < 15 then e.volume + 1 else e.volume
      | .down => e.volume - 1
      | .none => e.volume }

/-- The move of a table voice's envelope stops the voice (R96). -/
def moveStops (x : TableVoice) : Bool :=
  x.stopAtZero && decide (x.envelope.direction = .down) && decide ((movedEnvelope x.envelope).volume = 0)

/-- A table voice after a move of its envelope (R96). -/
def movedVoice (x : TableVoice) : TableVoice :=
  if moveStops x then { x with envelope := movedEnvelope x.envelope, state := .stopped, sample := 0x00 }
  else { x with envelope := movedEnvelope x.envelope }

/-- The voice's envelope counts this frame, and the frame brings its count to E × 512 (R96). -/
def moveIsDue (e : Envelope) : Bool := decide (e.period * 512 ≤ e.count + 1)

/-- A table voice after a frame arrival (R96). -/
def voiceAfterFrame (x : TableVoice) : TableVoice :=
  if x.state = .playing ∧ x.envelope.active = true then
    if moveIsDue x.envelope then movedVoice x else { x with envelope := { x.envelope with count := x.envelope.count + 1 } }
  else x

/-- A frame arrival stops the voice (R96). -/
def stopsAtFrame (x : TableVoice) : Bool :=
  decide (x.state = .playing) && x.envelope.active && moveIsDue x.envelope && moveStops x

/-- The sum A of R127 over the voices as the Mixer takes them: sample times volume, 0 for a STOPPED voice and an IDLE
stream. -/
def mixSum (voices : Fin 5 → TableVoice) (v5 : StreamVoice) (r : RingRecord) : Int :=
  ((List.finRange 5).map fun v =>
    (if (voices v).state = .stopped then 0 else (voices v).sample.toInt) * ((voices v).envelope.volume : Int)).sum
    + (if r.state = .idle then 0 else r.held.toInt) * (v5.envelope.volume : Int)

/-- The stream is paused (R121). -/
def StreamState.isPaused (r : StreamState) : Bool :=
  match r with
  | .paused _ => true
  | _ => false

/-- R111, R113, R117, R121: the positions and the fill level agree modulo 2048, a waiting stream holds fewer than
256 bytes, the stream runs in ACTIVE and is paused in SLEEP only, an IDLE stream's held sample is 0. -/
abbrev RingSound (s : State) : Prop :=
  s.ring.play < 2048 ∧ s.ring.fill = (s.ring.play + s.ring.level) % 2048 ∧ s.ring.level ≤ 2048
    ∧ s.ring.lowMark % 64 = 0 ∧ s.ring.lowMark ≤ 1984 ∧ s.ring.overrun ≤ 255
    ∧ (StreamState.waiting s.ring.state = true → s.ring.level < 256)
    ∧ (s.ring.state.running = true → s.power = .active)
    ∧ (StreamState.isPaused s.ring.state = true → s.power = .sleep)
    ∧ (s.ring.state = .idle → s.ring.held = 0x00)

/-- R125, R130, R132, R136: the mixer's ranges; 512 whenever the output is disabled or the power state is not
ACTIVE. -/
abbrev MixerSound (s : State) : Prop :=
  s.mixer.master ≤ 63 ∧ s.mixer.me ≤ 63 ∧ s.mixer.dac ≤ 1023
    ∧ (s.mixer.enabled = false ∨ s.power ≠ .active → s.mixer.dac = 512)

/-! ### Rumble Driver -/

/-- R139: the ranges of the fields a mode has; a step in play has time left. -/
def modeSound (m : RumbleMode) : Bool :=
  match m with
  | .off => true
  | .direct l => decide (l ≤ 15)
  | .pattern _ repeats position level timeLeft =>
    decide (repeats ≤ 15 ∧ position ≤ 15 ∧ level ≤ 15 ∧ 1 ≤ timeLeft ∧ timeLeft ≤ 255)
  | .linked _ => true

/-- R139, R142, R148 to R150: the effective level is within the battery's cap, and 0 unless the power state is
ACTIVE and the driver not RESTING; the run counter is below 7680 but at the start of a rest, the run limit is
1 to 60 seconds of ticks, a rest has 1 to 128 ticks left; the motor's level is within 15, and its period's frame within 14 (R143). -/
abbrev RumbleSound (s : State) : Prop :=
  modeSound s.rumble.mode = true
    ∧ s.rumble.level ≤ s.battery.rumbleCap
    ∧ (s.power ≠ .active ∨ s.rumble.rest ≠ none → s.rumble.level = 0)
    ∧ s.rumble.runLimit % 128 = 0 ∧ 128 ≤ s.rumble.runLimit ∧ s.rumble.runLimit ≤ 7680
    ∧ s.rumble.runCounter ≤ 7680 ∧ (s.rumble.rest = none → s.rumble.runCounter < 7680)
    ∧ (∀ t ∈ s.rumble.rest, 1 ≤ t ∧ t ≤ 128)
    ∧ s.motor ≤ 15 ∧ s.motorFrame ≤ 14

/-- R142: the effective level of a mode level. -/
def formedLevel (s : State) (level : Nat) : Nat :=
  if s.power = .active ∧ s.rumble.rest = none then min level s.battery.rumbleCap else 0

/-- The rumble record with a mode of that mode level, the effective level formed (R142). -/
def withMode (m : RumbleMode) (level : Nat) (s : State) : State :=
  { s with rumble := { s.rumble with mode := m, level := formedLevel s level } }

/-- Step `k` of pattern `p` as it is loaded, with `n` repeats left (R140, R147). -/
def loadedStep (s : State) (p : Fin 4) (n k : Nat) : RumbleMode :=
  .pattern p n k (min (stepLevelByte s p k).toNat 15) (stepDuration s p k)

/-- The rumble record after the fires of entries (R83, R152): in ACTIVE the last of their actions plays, one pass. -/
def rumbleAfterFires (s : State) (es : List (Fin 8)) : RumbleRecord :=
  match (es.filterMap fun e => s.alarms[e].bind AlarmEntry.action).getLast? with
  | none => s.rumble
  | some p =>
    if s.power ≠ .active then s.rumble
    else if stepDuration s p 0 = 0 then (withMode .off 0 s).rumble
    else (withMode (loadedStep s p 1 0) (min (stepLevelByte s p 0).toNat 15) s).rumble

/-- What follows step `k` of a playing pattern (R147): the next step, the first step of another pass, or none
when the pattern ends. -/
def followingStep (s : State) (p : Fin 4) (n k : Nat) : Option RumbleMode :=
  if k < 15 ∧ stepDuration s p (k + 1) ≠ 0 then some (loadedStep s p n (k + 1))
  else if n = 1 ∨ stepDuration s p 0 = 0 then none
  else some (loadedStep s p (n - 1) 0)

/-! ### Event Unit -/

/-- R157, R158: at most eight entries, no two of one kind and detail, each with a count of 1 to 15. -/
abbrev queueSound (q : List EventEntry) : Prop :=
  q.length ≤ 8 ∧ q.Pairwise (fun a b => ¬(a.kind = b.kind ∧ a.detail = b.detail))
    ∧ ∀ e ∈ q, 1 ≤ e.count ∧ e.count ≤ 15

/-- Both event records are sound (R157). -/
abbrev EventsSound (s : State) : Prop := queueSound s.gameEvents.queue ∧ queueSound s.systemEvents.queue

/-! ### Ports and supply -/

/-- The length of each record (R178, the table). -/
def recordLength (r : RecordId) : Nat :=
  match r with
  | .clock => 8 | .gameDay => 14 | .slot => 19 | .pool => 9 | .transaction => 18 | .storeNote => 4
  | .wakeNote => 17 | .alarm => 14 | .stream => 12 | .voice => 19 | .rumble => 15 | .eventHead => 12
  | .power => 3 | .mixer => 8

/-- R169, R174, R175: the counter against the target's size, for the targets whose size does not change; an INFO
copy has its record's length. -/
def targetSound (p : PortRecord) : Bool :=
  match p.target with
  | .none => decide (p.counter = 0 ∧ p.latch = 0x00)
  | .wave => decide (p.counter < 256)
  | .ring => decide (p.counter = 0)
  | .stage => true
  | .slot _ => true
  | .pattern => decide (p.counter < 128)
  | .info r _ copy => decide (copy.length = recordLength r ∧ p.counter < copy.length)

/-- R179: what a frame has received is a known request whose last parameter has not come, and fewer than eight bits of
its next byte; nothing is sampled before the request is taken, and a reply has its outcome byte. -/
def frameSound (l : SideLink) : Bool :=
  match l.frame with
  | .idle => true
  | .taken reply => decide (reply ≠ [])
  | .receiving bytes bits =>
    decide (bits.length < 8 ∧ l.sampled = []) &&
      match bytes with
      | [] => true
      | b :: bs => (linkParameters b.toNat).any fun n => decide (bs.length < n)

/-- R169, R170, R179: a pending command is a known code that lacks at least one parameter, a frame that receives
likewise, and the counter is below the target's size. -/
abbrev PortsSound (s : State) : Prop :=
  targetSound s.port = true ∧ frameSound s.side = true
    ∧ ∀ c ∈ s.port.command, busParameters (commandCode c.byte) = some c.needed ∧ c.received.length < c.needed

/-- R191, R192, R188: while OFF every main-domain record holds its power-up value (which nothing reads:
notes/assumptions/7.md), while RESET is asserted the port record does, and retention is lost only while OFF. -/
abbrev SupplySound (s : State) : Prop :=
  (s.power = .off →
    s.battery = .good ∧ s.port = .initial ∧ s.busData = 0x00 ∧ s.side = .initial ∧ s.walk = .none
      ∧ s.voices = Vector.replicate 5 .initial ∧ s.voice5 = .initial ∧ s.waveMem = [] ∧ s.layout = .short
      ∧ s.ringMem = [] ∧ s.ring = .initial ∧ s.mixer = .initial ∧ s.rumble = .initial ∧ s.patternMem = []
      ∧ s.motor = 0 ∧ s.motorFrame = 0 ∧ s.gameEvents = .initial ∧ s.systemEvents = .initial)
    ∧ (s.resetPin = true → s.port = .initial)
    ∧ (s.retention = .lost → s.power = .off)

end Sys2Proof.Safety
end

