-- ==== Sys2Proof/Certificates/Slice0/Obligations.lean ====
section
/-! DEFINITION. The statements for the provers: what each command does, what it leaves, and what every step keeps. -/

open Sys2Proof Sys2Proof.Machine Sys2Proof.Safety

/-! ### Step, queue and ports -/

/-- A step takes the command at the front of the queue and runs it with the queue's rest.
(The queue is the model's form.) -/
def Obligations.StepRunsFrontCommand : Prop :=
  ∀ (c : Instr) (rest : List Instr) (s : State),
    step { s with pending := c :: rest } = exec c { s with pending := rest }

/-- Every command completes in every state, and takes nothing from the queue of commands that wait. -/
def Obligations.EveryCommandCompletes : Prop :=
  ∀ (c : Instr) (s : State), ∃ t, exec c s = .next t ∧ t.pending = s.pending

/-- On an empty queue a step is one engine clock (the model's choice: notes/assumptions/2.md): at every voice that runs a
countdown above 0 falls by one, and one at 0 gives the voice its step, however many do so at once (R92); the steps are taken
in the order of the voices' numbers, voice 5 last (notes/assumptions/18.md), and nothing else changes. -/
def Obligations.IdleStepIsOneEngineClock : Prop :=
  ∀ s : State, s.pending = [] →
    let steps (v : Fin 5) := decide (s.voices[v].state = .playing ∧ s.voices[v].divider.countdown = 0)
    let u : State := { s with
      voices := Vector.ofFn fun v : Fin 5 =>
        if s.voices[v].state ≠ .playing then s.voices[v]
        else if s.voices[v].divider.countdown = 0 then steppedVoice s s.voices[v]
        else { s.voices[v] with divider := countedDown s.voices[v].divider }
      gameEvents := queueAfter s (((List.finRange 5).filter fun v => steps v && stepEnds s s.voices[v]).map
        fun v => (EventKind.voiceEnd, BitVec.ofNat 8 v.val)) s.gameEvents }
    step s = if s.ring.state.running = false then .next u
      else if s.voice5.divider.countdown = 0 then exec .streamStep u
      else .next { u with voice5 := { s.voice5 with divider := countedDown s.voice5.divider } }

/-- The bytes of a main-bus command and of a request spell that command and no other, and a command's row has
as many parameters as the command table says. -/
def Obligations.CommandsAndBytesAgree : Prop :=
  (∀ (i : Instr) (b : Byte) (ps : List Byte),
    i.busBytes = some (b, ps) ↔ decodeBus b ps = some i)
  ∧ (∀ (i : Instr) (bytes : List Byte), i.linkBytes = some bytes ↔ decodeLink bytes = some i)
  ∧ (∀ (i : Instr) (b : Byte) (ps : List Byte), i.busBytes = some (b, ps) →
      busParameters (commandCode b) = some ps.length)
  ∧ (∀ (i : Instr) (b : Byte) (ps : List Byte), i.linkBytes = some (b :: ps) →
      linkParameters b.toNat = some ps.length)

/-- A main-bus command's row does exactly what its bytes do, one after another: the command byte at the command
port, then each parameter at the data port.
(The reading of the row is the model's: notes/assumptions/3.md, 4.md.) -/
def Obligations.BusCommandIsItsBytes : Prop :=
  ∀ (i : Instr) (b : Byte) (ps : List Byte) (s : State), i.busBytes = some (b, ps) →
    exec i s = .next (afterAll (.commandPortWrite b :: ps.map .parameterByteWrite) s)

/-- A request's row does exactly what its bits do, each byte most significant bit first: clocked in after those the frame has
already received, whole bytes or not, whether its request is taken or not; with SLSEL released the row is a whole selection
whose reply is read to its end. (The reading of the rows is the model's: notes/assumptions/5.md, 6.md.) -/
def Obligations.RequestIsItsBytes : Prop :=
  ∀ (i : Instr) (bytes : List Byte) (s : State), i.linkBytes = some bytes → s.power ≠ .off →
    (∀ before : List Bool,
      exec i (after (.slselAssertion before) s) = exec (.slselAssertion (before ++ bytes.flatMap bitsOf)) s)
    ∧ (∀ b : Bool, s.side.frame = .idle →
        let reply := replyOf (after (.slselAssertion (bytes.flatMap bitsOf)) s)
        exec i s = .next (afterAll
          [.slselAssertion (bytes.flatMap bitsOf ++ List.replicate (8 * reply.length) b), .slselRelease] s))

/-- Without the main supply both ports take nothing, and with RESET asserted the main bus port takes no strobe.
(That such a command has no effect is deduced: notes/assumptions/8.md.) -/
def Obligations.DeadPortsTakeNothing : Prop :=
  (∀ (i : Instr) (s : State), s.power = .off ∨ s.resetPin = true → isBusStrobe i = true → exec i s = .next s)
  ∧ (∀ (i : Instr) (s : State), s.power = .off → isLinkArrival i = true → exec i s = .next s)

/-- A command byte with a command pending first discards that command with INCOMPLETE, reported in its own form,
and then acts as if none had been pending.
(For whole commands by the model's reading of their rows: notes/assumptions/3.md, 4.md.) -/
def Obligations.NewCommandAbandonsPending : Prop :=
  ∀ (i : Instr) (s : State), s.power ≠ .off → s.resetPin = false → ∀ c, s.port.command = some c →
    isCommandByte i = true →
    exec i s = exec i (reported (commandReporting c.byte) 0x00 .incomplete { s with port.command := none })

/-- A refused main-bus command changes nothing but the report: the outcome field in reporting form, the summary, and
REFUSED in the game queue; a refused rumble command, which is taken like any other, also has the effective level formed.
A refused request changes nothing but its reply and REFUSED in the system queue. -/
def Obligations.RefusalChangesNothingElse : Prop :=
  (∀ (i : Instr) (b : Byte) (ps : List Byte) (s : State), i.busBytes = some (b, ps) → busReady s →
    (busEffect i s).2.isRefusal = true →
    exec i s = .next { s with
      port := { s.port with
        outcome := if commandReporting b then (busEffect i s).2 else s.port.outcome, summary := true }
      rumble := if 0x40 ≤ commandCode b ∧ commandCode b ≤ 0x44
        then { s.rumble with level := formedLevel s (modeLevel s) } else s.rumble
      gameEvents := s.gameEvents.post .refused (busEffect i s).2.code })
  ∧ (∀ (i : Instr) (bytes : List Byte) (s : State), i.linkBytes = some bytes → linkReady s →
      (linkEffect i s).2.1.isRefusal = true →
      exec i s = .next { s with
        side := { s.side with frame := .taken [(linkEffect i s).2.1.code] }
        systemEvents := s.systemEvents.post .refused (linkEffect i s).2.1.code })

/-- The six codes whose objects only the system controller may write are refused PRIVILEGE on the main bus whatever
their parameters; a request byte the side link does not know is refused NO-SUCH at once. -/
def Obligations.CodesOfTheOtherMaster : Prop :=
  (∀ (r : Bool) (b1 b2 b3 b4 b5 b6 : Byte) (s : State), busReady s →
    exec (.hold (.game r) b1) s = .next (reported r 0x15 .privilege s)
    ∧ exec (.release (.game r)) s = .next (reported r 0x16 .privilege s)
    ∧ exec (.clockSet (.game r) b1 b2 b3 b4 b5 b6) s = .next (reported r 0x20 .privilege s)
    ∧ exec (.silence (.game r)) s = .next (reported r 0x3A .privilege s)
    ∧ exec (.battery (.game r) b1) s = .next (reported r 0x60 .privilege s)
    ∧ exec (.powerMode (.game r) b1) s = .next (reported r 0x61 .privilege s))
  ∧ (∀ (b : Byte) (s : State), linkParameters b.toNat = none → linkReady s →
      exec (.unknownRequest b) s = .next (replied .noSuch [] s))
  ∧ (∀ (b : Byte) (s : State), busParameters (commandCode b) = none → busReady s →
      exec (.unknownCommand b) s = .next (reported (commandReporting b) 0x00 .noSuch s))

/-- A known code with parameters becomes the pending command; each data-port write while it is pending is its next
parameter and reaches nothing else; with the last one the command is taken; a data-port read leaves it pending.
(The byte rows' reading is the model's: notes/assumptions/4.md.) -/
def Obligations.ParametersGatherAndTake : Prop :=
  (∀ (b : Byte) (s : State), busReady s → ∀ n, busParameters (commandCode b) = some n → 0 < n →
    exec (.commandPortWrite b) s = .next { s with port.command := some { byte := b, received := [], needed := n } })
  ∧ (∀ (p : Byte) (s : State), s.power ≠ .off → s.resetPin = false → ∀ c, s.port.command = some c →
      c.received.length + 1 < c.needed →
      exec (.parameterByteWrite p) s = .next { s with port.command := some { c with received := c.received ++ [p] } }
      ∧ exec (.dataWrite p) s = exec (.parameterByteWrite p) s)
  ∧ (∀ (i : Instr) (b : Byte) (ps : List Byte) (s : State), i.busBytes = some (b, ps) → ps ≠ [] → busReady s →
      exec (.parameterByteWrite (ps.getLastD 0))
        { s with port.command := some { byte := b, received := ps.dropLast, needed := ps.length } } = exec i s)
  ∧ (∀ (c : PendingCommand) (s : State), busReady s → ∀ t, exec .dataRead s = .next t →
      exec .dataRead { s with port.command := some c } = .next { t with port.command := some c })

/-- The assertion of SLSEL begins a frame; each eight bits, most significant first, are one byte; what falls short of a whole
request is only kept, and the release ends the frame with nothing done. Once a request is taken each bit clocked is ignored and
one bit of the reply comes out, outcome byte first, and FFh beyond its end; at the release SLD is released and the rest is lost.
(The operand of the assertion and the record of the bits sampled are the model's: notes/assumptions/6.md, 24.md.) -/
def Obligations.FramesBeginAndEnd : Prop :=
  (∀ s : State, exec .slselRelease s = .next { s with side := { s.side with frame := .idle } }
    ∧ drivenSld (after .slselRelease s).side = none)
  ∧ (∀ b : Byte, bitsOf b = (List.range 8).map b.getMsbD)
  ∧ (∀ s : State, s.power ≠ .off → exec (.slselAssertion []) s
      = .next { s with side := { s.side with frame := .receiving [] [], sampled := [] } })
  ∧ (∀ (b : Byte) (ps : List Byte) (bits : List Bool) (s : State), s.power ≠ .off → bits.length < 8 →
      ∀ n, linkParameters b.toNat = some n → ps.length < n →
      exec (.slselAssertion ((b :: ps).flatMap bitsOf ++ bits)) s
        = .next { s with side := { s.side with frame := .receiving (b :: ps) bits, sampled := [] } }
      ∧ drivenSld (after (.slselAssertion ((b :: ps).flatMap bitsOf ++ bits)) s).side = none
      ∧ afterAll [.slselAssertion ((b :: ps).flatMap bitsOf ++ bits), .slselRelease] s
        = { s with side := { s.side with frame := .idle, sampled := [] } })
  ∧ (∀ (i : Instr) (bytes : List Byte) (s : State), i.linkBytes = some bytes → s.power ≠ .off → ∀ extra : List Bool,
      let t := after (.slselAssertion (bytes.flatMap bitsOf)) s
      let data := replyOf t
      t.side.frame = .taken data
        ∧ exec (.slselAssertion (bytes.flatMap bitsOf ++ extra)) s = .next { t with
            side := { t.side with
              sampled := (data.flatMap bitsOf ++ List.replicate (extra.length - 8 * data.length) true).take extra.length } }
        ∧ (extra.length < 8 * data.length → drivenSld (after (.slselAssertion (bytes.flatMap bitsOf ++ extra)) s).side
            = (data.flatMap bitsOf)[extra.length]?))

/-! ### Main bus port: targets and data -/

/-- ENTRY takes the direction from 00h and 01h and is refused RANGE for any other byte; STATUS CLEAR makes the
summary clear and the outcome field OK in either form. Neither touches anything else. -/
def Obligations.EntryAndStatusClearResults : Prop :=
  ∀ (r : Bool) (d : Byte) (s : State), busReady s →
    exec (.entry r d) s = .next (reported r 0x02 (if d.toNat ≤ 1 then .ok else .range)
      { s with port := { s.port with
          descending := if d.toNat ≤ 1 then decide (d = 0x01) else s.port.descending } })
    ∧ exec (.statusClear r) s = .next { s with port := { s.port with summary := false, outcome := .ok } }

/-- SELECT: the target, counter and latch of the target table for each target code; the refusals of STAGE, SLOT and INFO
in the order of their checks; a target code of 07h or above names none. A refused SELECT is only reported. -/
def Obligations.SelectResults : Prop :=
  ∀ (r : Bool) (c x : Byte) (a : Half) (s : State), busReady s →
    exec (.select r 0x00 x a) s
      = .next (reported r 0x01 .ok { s with port := { s.port with target := .none, counter := 0, latch := 0x00 } })
    ∧ exec (.select r 0x01 x a) s
      = .next (reported r 0x01 .ok { s with port := { s.port with
          target := .wave, counter := a.toNat % 256, latch := Memory.read 0x00 s.waveMem (a.toNat % 256) } })
    ∧ exec (.select r 0x02 x a) s
      = .next (reported r 0x01 .ok { s with port := { s.port with target := .ring, counter := 0 } })
    ∧ exec (.select r 0x05 x a) s
      = .next (reported r 0x01 .ok { s with port := { s.port with
          target := .pattern, counter := a.toNat % 128, latch := Memory.read 0x00 s.patternMem (a.toNat % 128) } })
    ∧ (7 ≤ c.toNat → exec (.select r c x a) s = .next (reported r 0x01 .noSuch s))
    ∧ (storeHeld s = true → exec (.select r 0x03 x a) s = .next (reported r 0x01 .held s)
        ∧ exec (.select r 0x04 x a) s = .next (reported r 0x01 .held s))
    ∧ (storeHeld s = false → s.txn.all (fun t => !Txn.isOpen t) = true →
        exec (.select r 0x03 x a) s = .next (reported r 0x01 .state s))
    ∧ (∀ t ∈ s.txn, storeHeld s = false → Txn.isOpen t = true →
        exec (.select r 0x03 x a) s = .next (reported r 0x01 .ok { s with port := { s.port with
          target := .stage, counter := a.toNat % (t.staging.length * 512)
          latch := listByte s.pages t.staging (a.toNat % (t.staging.length * 512)) } }))
    ∧ (storeHeld s = false → slotAt s x = none →
        exec (.select r 0x04 x a) s = .next (reported r 0x01 (if 8 ≤ x.toNat then .noSuch else .state) s))
    ∧ (∀ d ∈ slotAt s x, storeHeld s = false →
        exec (.select r 0x04 x a) s = .next (reported r 0x01 .ok { s with port := { s.port with
          target := .slot (Fin.ofNat 8 x.toNat), counter := a.toNat % (d.pages.length * 512)
          latch := listByte s.pages d.pages (a.toNat % (d.pages.length * 512)) } }))
    ∧ (∀ k, recordOf (Half.hi a) = some k → ∀ copy ∈ recordCopy .game k x s,
        exec (.select r 0x06 x a) s = .next (reported r 0x01 .ok { s with port := { s.port with
          target := .info k x copy, counter := (Half.lo a).toNat % recordLength k
          latch := copy.getD ((Half.lo a).toNat % recordLength k) 0xFF } }))
    ∧ (14 ≤ (Half.hi a).toNat ∨ ((Half.hi a).toNat = 2 ∨ (Half.hi a).toNat = 7) ∧ 8 ≤ x.toNat
          ∨ (Half.hi a).toNat = 9 ∧ 6 ≤ x.toNat →
        exec (.select r 0x06 x a) s = .next (reported r 0x01 .noSuch s))

/-- A data-port write with no command pending: WAVE, PATTERN and STAGE store the byte at the counter and move it; RING
keeps the counter at 0 (its effect is RingIsAQueue's); every other access is refused with the outcome of the target
table. The latch is never reloaded, and every byte of memory but the one at the counter reads as before.
(A STAGE write beyond a shrunk size lands as deduced in notes/assumptions/21.md.) -/
def Obligations.DataWriteResults : Prop :=
  ∀ (b : Byte) (s : State), busReady s → MemoriesSound s →
    (s.port.target = .none → exec (.dataWrite b) s = .next (accessRefused .state s))
    ∧ (∀ n, s.port.target = .slot n →
        exec (.dataWrite b) s = .next (accessRefused (if storeHeld s then .held else .readOnly) s))
    ∧ (∀ k x copy, s.port.target = .info k x copy → exec (.dataWrite b) s = .next (accessRefused .readOnly s))
    ∧ (s.port.target = .wave → ∃ t, exec (.dataWrite b) s = .next t
        ∧ t = { s with waveMem := t.waveMem, port := { s.port with counter := movedCounter s 256 } }
        ∧ ∀ o, Memory.read 0x00 t.waveMem o = if o = s.port.counter % 256 then b else Memory.read 0x00 s.waveMem o)
    ∧ (s.port.target = .pattern → ∃ t, exec (.dataWrite b) s = .next t
        ∧ t = { s with patternMem := t.patternMem, port := { s.port with counter := movedCounter s 128 } }
        ∧ ∀ o, Memory.read 0x00 t.patternMem o = if o = s.port.counter % 128 then b else Memory.read 0x00 s.patternMem o)
    ∧ (s.port.target = .ring → exec (.dataWrite b) s
          = .next { s with ring := (ringWrite b s).ring, ringMem := (ringWrite b s).ringMem })
    ∧ (s.port.target = .stage → storeHeld s = true → exec (.dataWrite b) s = .next (accessRefused .held s))
    ∧ (s.port.target = .stage → storeHeld s = false → s.txn.all (fun t => !Txn.isOpen t) = true →
        exec (.dataWrite b) s = .next (accessRefused .state s))
    ∧ (∀ x ∈ s.txn, s.port.target = .stage → storeHeld s = false → Txn.isOpen x = true → 1 ≤ x.staging.length →
        ∃ t, exec (.dataWrite b) s = .next t
        ∧ t = { s with
            pages := t.pages, port := { s.port with counter := movedCounter s (x.staging.length * 512) } }
        ∧ ∀ p ∈ x.staging[(s.port.counter % (x.staging.length * 512)) / 512]?, ∀ (q : Page) (o : Nat), o < 512 →
            pageByte t.pages q o
              = if q = p ∧ o = s.port.counter % (x.staging.length * 512) % 512 then b else pageByte s.pages q o)

/-- A data-port read: NONE returns 00h; a refused read returns FFh and moves nothing; every other returns the latch, moves the
counter and loads the latch from the target at the new position.
(The field busData is the model's: notes/assumptions/24.md.) -/
def Obligations.DataReadResults : Prop :=
  ∀ (s : State), s.power ≠ .off → s.resetPin = false →
    (s.port.target = .none → exec .dataRead s = .next { s with busData := 0x00 })
    ∧ (s.port.target = .ring → exec .dataRead s = .next (accessRefused .state { s with busData := 0xFF }))
    ∧ (s.port.target = .wave → exec .dataRead s = .next { s with
          busData := s.port.latch
          port := { s.port with counter := movedCounter s 256, latch := Memory.read 0x00 s.waveMem (movedCounter s 256) } })
    ∧ (s.port.target = .pattern → exec .dataRead s = .next { s with
          busData := s.port.latch
          port := { s.port with counter := movedCounter s 128, latch := Memory.read 0x00 s.patternMem (movedCounter s 128) } })
    ∧ (∀ k x copy, s.port.target = .info k x copy → exec .dataRead s = .next { s with
          busData := s.port.latch
          port := { s.port with
            counter := movedCounter s copy.length, latch := copy.getD (movedCounter s copy.length) 0xFF } })
    ∧ (∀ n, s.port.target = .slot n →
        (storeHeld s = true → exec .dataRead s = .next (accessRefused .held { s with busData := 0xFF }))
        ∧ (storeHeld s = false → s.slots[n] = none →
            exec .dataRead s = .next (accessRefused .state { s with busData := 0xFF }))
        ∧ (∀ d ∈ s.slots[n], storeHeld s = false → exec .dataRead s = .next { s with
            busData := s.port.latch
            port := { s.port with
              counter := movedCounter s (d.pages.length * 512)
              latch := listByte s.pages d.pages (movedCounter s (d.pages.length * 512)) } }))
    ∧ (s.port.target = .stage →
        (storeHeld s = true → exec .dataRead s = .next (accessRefused .held { s with busData := 0xFF }))
        ∧ (storeHeld s = false → s.txn.all (fun t => !Txn.isOpen t) = true →
            exec .dataRead s = .next (accessRefused .state { s with busData := 0xFF }))
        ∧ (∀ t ∈ s.txn, storeHeld s = false → Txn.isOpen t = true → exec .dataRead s = .next { s with
            busData := s.port.latch
            port := { s.port with
              counter := movedCounter s (t.staging.length * 512)
              latch := listByte s.pages t.staging (movedCounter s (t.staging.length * 512)) } }))

/-- The status byte shows STORE BUSY, HELD, GAME ALERT, the refusal summary and the outcome field in bits 7, 6, 5, 4
and 3-0.
(A read of the command port is this function and has no row: notes/assumptions/28.md.) -/
def Obligations.StatusByteBits : Prop :=
  ∀ s : State,
    (statusByte s).getLsbD 7 = decide (s.walk ≠ .none)
    ∧ (statusByte s).getLsbD 6 = decide (s.hold = .held .keep ∨ s.hold = .held .drop)
    ∧ (statusByte s).getLsbD 5 = s.gameEvents.line
    ∧ (statusByte s).getLsbD 4 = s.port.summary
    ∧ (statusByte s).extractLsb' 0 4 = s.port.outcome.code.extractLsb' 0 4

/-- READ RECORD replies OK and the whole record, as long as the record table says; the voice and rumble records are refused
PRIVILEGE whatever the index; an id of 14 or above, and an index that names no member, NO-SUCH. It changes nothing else.
Both ports read one copy. For each of the fourteen records its bytes are the fields in the order of the record's layout: a
16-bit value high byte first, a field that is absent FFh in each of its bytes, a list followed by FFh to the end of its place,
a set one bit for each member.
(Bytes of the alarm record that carry no field of the entry's kind read FFh: deduced, notes/assumptions/25.md.) -/
def Obligations.ReadRecordResults : Prop :=
  (∀ (id x : Byte) (s : State), linkReady s →
    (14 ≤ id.toNat ∨ (id.toNat = 2 ∨ id.toNat = 7) ∧ 8 ≤ x.toNat →
      exec (.readRecord id x) s = .next (replied .noSuch [] s))
    ∧ (id.toNat = 9 ∨ id.toNat = 10 → exec (.readRecord id x) s = .next (replied .privilege [] s))
    ∧ (id.toNat < 14 → id.toNat ≠ 9 → id.toNat ≠ 10 → (id.toNat = 2 ∨ id.toNat = 7 → x.toNat < 8) →
        ((recordOf id).bind fun k => recordCopy .system k x s).isSome = true)
    ∧ (∀ k, recordOf id = some k → k ≠ .voice → k ≠ .rumble → ∀ bytes ∈ recordCopy .system k x s,
        bytes.length = recordLength k ∧ exec (.readRecord id x) s = .next (replied .ok bytes s)))
  ∧ (∀ (m : Master) (x : Byte) (s : State),
      let nats (k : RecordId) := (recordCopy m k x s).map fun l => l.map BitVec.toNat
      let b (n : Nat) : Nat := n % 256
      let w (n : Nat) : List Nat := [n / 256 % 256, n % 256]
      let flag (f : Bool) : Nat := if f then 1 else 0
      let none' (n : Nat) : List Nat := List.replicate n 255
      let date (d : Option Date) : List Nat := match d with | none => none' 3 | some d => [b d.year, b d.month, b d.day]
      let list (ps : List Page) : List Nat := (ps.map Fin.val ++ none' 8).take 8
      let sounding (d : Divider) (v : Envelope) : List Nat :=
        w d.d ++ [d.detune.toNat] ++ w d.effective ++ w d.countdown
          ++ [b v.volume, match v.direction with | .none => 0 | .up => 1 | .down => 2, b v.period] ++ w v.count
      let stream : List Nat := match s.ring.state with
        | .idle => [0, 255] | .run .priming => [1, 255] | .run .playing => [2, 255] | .run .starved => [3, 255]
        | .paused .priming => [4, 1] | .paused .playing => [4, 2] | .paused .starved => [4, 3]
      let e := match m with | .game => s.gameEvents | .system => s.systemEvents
      nats .clock = some [flag (decide (s.calendar = .running)), b s.clock.now.date.year, b s.clock.now.date.month,
          b s.clock.now.date.day, b s.clock.weekday, b s.clock.now.hour, b s.clock.now.minute, b s.clock.now.second]
      ∧ nats .gameDay = some (w s.gameDay.day ++ w s.gameDay.debt
          ++ [b s.gameDay.startHour, b s.gameDay.startMinute, b s.gameDay.catchUp,
            match s.setting.kind with | .none => 0 | .first => 1 | .forward => 2 | .backward => 3 | .same => 4]
          ++ w s.setting.found ++ [b s.setting.applied, b s.setting.advanced] ++ w s.setting.debtAdded)
      ∧ (x.toNat < 8 → nats .slot = some (match slotAt s x with
          | none => 0 :: none' 18
          | some d => [if d.damaged then 2 else 1, b d.pages.length] ++ list d.pages ++ w d.generation.toNat ++ w d.stampDay
              ++ date d.stampDate ++ w d.check.toNat))
      ∧ (nats .pool).map (List.take 1) = some [b s.pool.length]
      ∧ (∀ p : Page, (((recordCopy m .pool x s).getD []).getD (1 + p.val / 8) 0).getLsbD (p.val % 8) = decide (p ∈ s.pool))
      ∧ nats .transaction = some (
          (match s.txn with
            | none => 0 :: none' 13
            | some t =>
              [match t.phase with | .filling _ => 1 | .opened _ => 2 | .sealing _ => 3, t.slot.val, b t.staging.length]
                ++ list t.staging ++ [match t.mode with | .plain => 0 | .copy => 1]
                ++ match t.phase with | .filling k => [b k, 0] | .opened suspended => [255, flag suspended] | .sealing k => [b k, 0])
          ++ (match s.hold with
            | .notHeld => [0, 255] | .pending .keep => [1, 0] | .pending .drop => [1, 1] | .held .keep => [2, 0] | .held .drop => [2, 1])
          ++ match s.walk with | .none => [0, 255] | .fill _ _ => [1, 255] | .check _ _ _ _ => [2, 255] | .verify n _ _ _ => [3, n.val])
      ∧ nats .storeNote = some (match s.note with
          | .none => 0 :: none' 3
          | .committed n g => [1, n.val] ++ w g.toNat
          | .ended k n => [match k with | .aborted => 2 | .rolledBackReset => 3 | .droppedByHold => 4 | .lostPower => 5, n.val, 255, 255])
      ∧ nats .wakeNote = some ([flag s.wake.afterCellReset] ++ w s.wake.daysElapsed
          ++ (match s.wake.powerDownDay with | none => none' 2 | some d => w d) ++ date s.wake.powerDownDate
          ++ [b s.wake.missed.length]
          ++ (List.finRange 8).map fun e => (((s.wake.missed.find? fun y => decide (y.1 = e)).map Prod.snd).getD 0) % 256)
      ∧ (x.toNat < 8 → nats .alarm = some (match alarmAt s x with
          | none => 0 :: none' 13
          | some a => [match a.state with | .armed => 1 | .spent => 2, match a.owner with | .game => 0 | .system => 1]
              ++ (match a.due with
                | .real _ .none => [0, 0] | .real _ .daily => [0, 1] | .real _ .weekly => [0, 2]
                | .game _ every => [1, b every]
                | .countdown _ r => [2, flag r.isSome])
              ++ [match a.action with | none => 255 | some p => p.val]
              ++ (match a.due with
                | .real t _ => [b t.date.year, b t.date.month, b t.date.day, b t.hour, b t.minute, b t.second]
                | .game day _ => w day ++ none' 4
                | .countdown n r => w n ++ (match r with | none => none' 2 | some r => w r) ++ none' 2)
              ++ [b a.missed, flag a.late,
                if a.state = .armed then b ((dueList s).takeWhile fun f => decide (f.val ≠ x.toNat)).length else 255]))
      ∧ nats .stream = some (stream ++ w s.ring.fill ++ w s.ring.play ++ w s.ring.level ++ w s.ring.lowMark
          ++ [b s.ring.overrun, s.ring.held.toNat])
      ∧ (∀ v : Fin 5, x.toNat = v.val → nats .voice = some (
          [match s.voices[v].state with | .stopped => 0 | .playing => 1 | .paused => 2, b s.voices[v].code, b s.voices[v].start,
            b s.voices[v].loopPosition, flag s.voices[v].loop + 2 * flag s.voices[v].stopAtZero, b s.voices[v].position]
          ++ sounding s.voices[v].divider s.voices[v].envelope ++ [s.voices[v].sample.toNat]))
      ∧ (x = 0x05 → nats .voice = some (stream.take 1 ++ none' 5 ++ sounding s.voice5.divider s.voice5.envelope
          ++ [s.ring.held.toNat]))
      ∧ nats .rumble = some (
          (match s.rumble.mode with
            | .off => 0 :: none' 7
            | .direct l => [1, b l] ++ none' 6
            | .pattern p n k l t => [2, 255, p.val, b n, b k, b l, b t, 255]
            | .linked v => 3 :: none' 6 ++ [v.val])
          ++ [b s.rumble.level] ++ w s.rumble.runCounter ++ w s.rumble.runLimit
          ++ match s.rumble.rest with | none => [0, 255] | some t => [1, b t])
      ∧ nats .eventHead = some (
          (match e.queue.head? with | none => [255, 0, 0] | some y => [y.kind.number, y.detail.toNat, b y.count])
          ++ [b e.queue.length, e.lost.toNat / 65536, e.lost.toNat / 256 % 256, e.lost.toNat % 256,
            e.mask.toNat / 65536, e.mask.toNat / 256 % 256, e.mask.toNat % 256, flag e.lineEnable, flag e.line])
      ∧ (s.power ≠ .off → nats .power = some [flag (decide (s.power = .sleep)),
          match s.battery with | .good => 0 | .low => 1 | .critical => 2, flag s.port.summary])
      ∧ nats .mixer = some (
          [b s.mixer.master, flag (decide (s.mixer.rounding = .nearest)), flag s.mixer.enabled, flag s.mixer.clip, b s.mixer.me]
          ++ w s.mixer.dac ++ [flag (decide (s.layout = .long))]))

/-! ### Save Store and Transaction Unit -/

/-- OPEN: the checks in the order of the rule's table; accepted, the lowest pages of the pool become the staging
list and the fill walk starts. Nothing else changes but the report. -/
def Obligations.OpenResult : Prop :=
  ∀ (r : Bool) (slot size mode : Byte) (s : State), busReady s →
    exec (.openTxn r slot size mode) s =
      .next (
        let o := firstOutcome [
          (storeHeld s, .held), (walkInFlight s, .busy), (s.txn.isSome, .state),
          (decide (s.battery = .critical), .lowPower), (decide (8 ≤ slot.toNat), .noSuch),
          (decide (size.toNat = 0 ∨ 8 < size.toNat ∨ 1 < mode.toNat), .range),
          (decide (mode = 0x01) && (slotAt s slot).isNone, .state),
          (decide (s.pool.length < size.toNat), .full)]
        reported r 0x10 o (if o = .ok then
          { s with
            pool := s.pool.drop size.toNat
            txn := some {
              phase := .filling 0, slot := Fin.ofNat 8 slot.toNat, staging := s.pool.take size.toNat
              mode := if mode = 0x01 then .copy else .plain }
            walk := .fill (Fin.ofNat 8 slot.toNat) 0 }
          else s))

/-- COMMIT: the checks in order; accepted, SEALING begins with its check walk. ABORT: refused HELD while held, STATE without
a transaction and BUSY while SEALING; otherwise a roll-back that gives the staging pages to the pool, posts COMMIT_FAIL,
writes ABORTED, and lets a VERIFY walk go on; a fill walk it stops grants the hold that waited for it.
(The order of COMMIT_FAIL before HOLD is deduced: notes/assumptions/19.md.) -/
def Obligations.CommitAndAbortResults : Prop :=
  (∀ (r : Bool) (s : State), busReady s →
    (storeHeld s = true → exec (.commit r) s = .next (reported r 0x11 .held s))
    ∧ (storeHeld s = false → walkInFlight s = true → exec (.commit r) s = .next (reported r 0x11 .busy s))
    ∧ (storeHeld s = false → walkInFlight s = false → s.txn = none →
        exec (.commit r) s = .next (reported r 0x11 .state s))
    ∧ (∀ t ∈ s.txn, storeHeld s = false → walkInFlight s = false →
        exec (.commit r) s = .next (reported r 0x11 .ok
          { s with txn := some { t with phase := .sealing 0 }, walk := .check t.slot 0 0 0 })))
  ∧ (∀ (r : Bool) (s : State), busReady s →
      (storeHeld s = true → exec (.abort r) s = .next (reported r 0x12 .held s))
      ∧ (storeHeld s = false → s.txn = none → exec (.abort r) s = .next (reported r 0x12 .state s))
      ∧ (∀ t ∈ s.txn, storeHeld s = false → Txn.isSealing t = true →
          exec (.abort r) s = .next (reported r 0x12 .busy s))
      ∧ (∀ t ∈ s.txn, storeHeld s = false → Txn.isOpen t = true →
          walkSound s = true →
          exec (.abort r) s = .next (reported r 0x12 .ok { joinPool t.staging s with
            txn := none, note := .ended .aborted t.slot
            gameEvents := s.gameEvents.post .commitFail (BitVec.ofNat 8 t.slot.val) }))
      ∧ (∀ t ∈ s.txn, ∀ k, t.phase = .filling k → s.hold = .notHeld → walkSound s = true →
          exec (.abort r) s = .next (reported r 0x12 .ok { joinPool t.staging s with
            txn := none, walk := .none, note := .ended .aborted t.slot
            gameEvents := s.gameEvents.post .commitFail (BitVec.ofNat 8 t.slot.val) }))
      ∧ (∀ t ∈ s.txn, ∀ k m, t.phase = .filling k → s.hold = .pending m → walkSound s = true →
          exec (.abort r) s = .next (reported r 0x12 .ok { joinPool t.staging s with
            txn := none, walk := .none, note := .ended .aborted t.slot, hold := .held m
            gameEvents := (s.gameEvents.post .commitFail (BitVec.ofNat 8 t.slot.val)).post .hold 1
            systemEvents := s.systemEvents.post .hold 1 })))

/-- ERASE and VERIFY: the checks in the order of the rules' tables; ERASE of a slot that holds a save frees it and gives its
pages to the pool, VERIFY starts its walk. -/
def Obligations.EraseAndVerifyResults : Prop :=
  ∀ (r : Bool) (slot : Byte) (s : State), busReady s →
    exec (.erase r slot) s =
      .next (
        let o := firstOutcome [
          (storeHeld s, .held), (walkInFlight s, .busy), (decide (8 ≤ slot.toNat), .noSuch),
          (s.txn.any (fun t => decide (t.slot.val = slot.toNat)), .state)]
        reported r 0x13 o (if o = .ok then
          match slotAt s slot with
          | none => s
          | some d => { joinPool d.pages s with slots := s.slots.setIfInBounds slot.toNat none }
          else s))
    ∧ exec (.verify r slot) s =
      .next (
        let o := firstOutcome [
          (storeHeld s, .held), (walkInFlight s, .busy), (decide (8 ≤ slot.toNat), .noSuch),
          ((slotAt s slot).isNone, .state)]
        reported r 0x14 o (if o = .ok then { s with walk := .verify (Fin.ofNat 8 slot.toNat) 0 0 0 } else s))

/-- HOLD from the side link: granted, left waiting or rolled back by the transaction, the walk and the mode, as the tables of
the hold rules give; while HELD it changes nothing. RELEASE: from HELD the store is free, a suspended transaction is OPEN
again and HOLD 0 goes to both queues; from PENDING the request is cancelled with no event; from NOT-HELD nothing changes.
(The order of COMMIT_FAIL before HOLD is deduced: notes/assumptions/19.md.) -/
def Obligations.HoldAndReleaseResults : Prop :=
  ((∀ (b : Byte) (s : State), linkReady s → 1 < b.toNat → exec (.hold .system b) s = .next (replied .range [] s))
  ∧ (∀ (drop : Bool) (s : State), linkReady s → walkSound s = true →
      let m : HoldMode := if drop then .drop else .keep
      let c : Instr := .hold .system (if drop then 0x01 else 0x00)
      let pend (h : HoldMode) (t : State) := Host.Outcome.next (replied .pending [] { t with hold := .pending h })
      (storeHeld s = true → exec c s = .next (replied .ok [] s))
      ∧ (s.hold = .notHeld → s.txn = none →
          exec c s = if s.walk = .none then .next (replied .ok [] (granted m s)) else pend m s)
      ∧ (∀ t ∈ s.txn, s.hold = .notHeld → Txn.isSealing t = true → exec c s = pend m s)
      ∧ (∀ t ∈ s.txn, s.hold = .notHeld → Txn.isOpen t = true → drop = false →
          exec c s = if s.walk = .none
            then .next (replied .ok [] (granted m { s with txn := some { t with phase := .opened true } }))
            else pend m s)
      ∧ (∀ t ∈ s.txn, s.hold = .notHeld → Txn.isOpen t = true → drop = true →
          exec c s = if s.walk = .none
            then .next (replied .ok [] (granted m (rolledBack .droppedByHold t s)))
            else pend m (rolledBack .droppedByHold t s))
      ∧ (∀ t ∈ s.txn, s.hold = .notHeld → Txn.isOpen t = false → Txn.isSealing t = false →
          exec c s = if drop
            then .next (replied .ok [] (granted m { rolledBack .droppedByHold t s with walk := .none }))
            else pend m s)
      ∧ (s.hold = .pending .drop ∨ s.hold = .pending .keep ∧ drop = false →
          exec c s = .next (replied .pending [] s))
      ∧ (s.hold = .pending .keep → drop = true → s.txn.all Txn.isSealing = true → exec c s = pend .drop s)
      ∧ (∀ t ∈ s.txn, s.hold = .pending .keep → drop = true → Txn.isOpen t = true →
          exec c s = pend .drop (rolledBack .droppedByHold t s))
      ∧ (∀ t ∈ s.txn, s.hold = .pending .keep → drop = true → Txn.isOpen t = false → Txn.isSealing t = false →
          exec c s = .next (replied .ok [] (granted .drop { rolledBack .droppedByHold t s with walk := .none })))))
  ∧ (∀ s : State, linkReady s →
      (s.hold = .notHeld → exec (.release .system) s = .next (replied .ok [] s))
      ∧ (∀ m, s.hold = .pending m → exec (.release .system) s = .next (replied .ok [] { s with hold := .notHeld }))
      ∧ (storeHeld s = true → s.txn.all Txn.isOpen = true →
          exec (.release .system) s = .next (replied .ok [] { s with
            hold := .notHeld, txn := s.txn.map fun t => { t with phase := .opened false }
            gameEvents := s.gameEvents.post .hold 0, systemEvents := s.systemEvents.post .hold 0 })))

/-- SLOT READ: the checks in order; accepted, the bytes from the starting offset upward, wrapping at the slot's end, and
the side slot-read counter set past them; FFFFh continues from the counter. -/
def Obligations.SlotReadResult : Prop :=
  ∀ (slot count : Byte) (offset : Half) (s : State), linkReady s →
    let o := firstOutcome [
      (!storeHeld s, .state), (decide (8 ≤ slot.toNat), .noSuch), ((slotAt s slot).isNone, .state),
      (decide (count.toNat = 0 ∨ 32 < count.toNat), .range)]
    (o ≠ .ok → exec (.slotRead slot offset count) s = .next (replied o [] s))
    ∧ (∀ d ∈ slotAt s slot, storeHeld s = true → 1 ≤ count.toNat → count.toNat ≤ 32 →
        let size := d.pages.length * 512
        let start := (if offset = 0xFFFF then s.side.slotRead else offset.toNat) % size
        exec (.slotRead slot offset count) s = .next (replied .ok
          ((List.range count.toNat).map fun i => listByte s.pages d.pages ((start + i) % size))
          { s with side := { s.side with slotRead := (start + count.toNat) % size } }))

/-- One page of a walk, from any point of it. Fill: that page of the staging list is written and no other byte, FFh, or in COPY
the same page of the slot's list where it has one; the last page makes the transaction OPEN and posts FILL_DONE. Check and
VERIFY: the sums go on over the page; the last page of the one performs the switch and posts COMMIT_DONE, of the other sets
the slot LIVE or DAMAGED and posts VERIFY_BAD for the second. A walk's end grants the hold that waited for it, after its own post.
(That the last page ends the walk, and the order of the posts before HOLD, are deduced: notes/assumptions/16.md, 19.md.) -/
def Obligations.WalkPageResults : Prop :=
  (∀ s : State, s.power ≠ .off → walkSound s = true → MemoriesSound s → ∀ x ∈ s.txn, ∀ n d, s.walk = .fill n d →
    ∃ t, exec .walkPage s = .next t
      ∧ (∀ p ∈ x.staging[d]?, ∀ (q : Page) (o : Nat), o < 512 →
          pageByte t.pages q o =
            if q ≠ p then pageByte s.pages q o
            else match x.mode, (slotPages s x.slot)[d]? with
              | .copy, some source => pageByte s.pages source o
              | _, _ => 0xFF)
      ∧ t = if d + 1 < x.staging.length then
          { s with pages := t.pages, walk := .fill n (d + 1), txn := some { x with phase := .filling (d + 1) } }
        else grantedAtEnd { s with
          pages := t.pages, walk := .none, txn := some { x with phase := .opened false }
          gameEvents := s.gameEvents.post .fillDone (BitVec.ofNat 8 x.slot.val) })
  ∧ (∀ s : State, s.power ≠ .off → walkSound s = true → ∀ x ∈ s.txn, ∀ n d a b, s.walk = .check n d a b →
      ∀ p ∈ x.staging[d]?,
      let ab := sumsOf (a, b) (pageData s.pages p)
      exec .walkPage s = .next (
        if d + 1 < x.staging.length then
          { s with walk := .check n (d + 1) ab.1 ab.2, txn := some { x with phase := .sealing (d + 1) } }
        else grantedAtEnd (switched x (checkOfSums ab) s)))
  ∧ (∀ s : State, s.power ≠ .off → ∀ n d a b, s.walk = .verify n d a b → ∀ y ∈ s.slots[n], ∀ p ∈ y.pages[d]?,
      let ab := sumsOf (a, b) (pageData s.pages p)
      exec .walkPage s = .next (
        if d + 1 < y.pages.length then { s with walk := .verify n (d + 1) ab.1 ab.2 }
        else grantedAtEnd (verified n y (checkOfSums ab) s)))

/-- The rows that name a walk's end are as many WALK_PAGEs as the walk has pages left, and do nothing when another walk or
none is in flight (the model's reading of those rows: notes/assumptions/15.md, 16.md). -/
def Obligations.WalkDoneIsItsPages : Prop :=
  ∀ s : State, walkSound s = true →
    (∀ n d, s.walk = .fill n d →
      exec .fillWalkDone s = .next (afterAll (List.replicate ((stagingPages s).length - d) .walkPage) s)
      ∧ exec .checkWalkDone s = .next s ∧ exec .verifyWalkDone s = .next s)
    ∧ (∀ n d a b, s.walk = .check n d a b →
      exec .checkWalkDone s = .next (afterAll (List.replicate ((stagingPages s).length - d) .walkPage) s)
      ∧ exec .fillWalkDone s = .next s ∧ exec .verifyWalkDone s = .next s)
    ∧ (∀ n d a b, s.walk = .verify n d a b →
      exec .verifyWalkDone s = .next (afterAll (List.replicate ((slotPages s n).length - d) .walkPage) s)
      ∧ exec .fillWalkDone s = .next s ∧ exec .checkWalkDone s = .next s)
    ∧ (s.walk = .none → exec .walkPage s = .next s ∧ exec .fillWalkDone s = .next s
        ∧ exec .checkWalkDone s = .next s ∧ exec .verifyWalkDone s = .next s)

/-- A commit from COMMIT to its switch: after a page of the check walk for each staging page, the slot holds the staging
pages with the check of their data taken in one pass, the next generation and the stamps of the Calendar; its old pages
are in the pool; COMMIT_DONE is posted. Nothing else changes.
(That the last page ends the walk is deduced: notes/assumptions/16.md.) -/
def Obligations.CommitSwitchesTheSlot : Prop :=
  ∀ (r : Bool) (s : State), busReady s → s.hold = .notHeld → s.walk = .none →
    ∀ x ∈ s.txn, Txn.isOpen x = true → 1 ≤ x.staging.length →
      afterAll (.commit r :: List.replicate x.staging.length .walkPage) s =
        switched x (checkOf (dataOf s.pages x.staging)) (reported r 0x11 .ok s)

/-- A VERIFY from its taking to its end: after a page of its walk for each page of the slot, the slot is DAMAGED exactly when
the check of its data differs from the stored one, and VERIFY_BAD is posted then. Nothing else changes.
(That the last page ends the walk is deduced: notes/assumptions/16.md.) -/
def Obligations.VerifyComparesTheCheck : Prop :=
  ∀ (r : Bool) (n : SlotNo) (s : State), busReady s → s.hold = .notHeld → s.walk = .none →
    ∀ d ∈ s.slots[n], 1 ≤ d.pages.length →
      afterAll (.verify r (BitVec.ofNat 8 n.val) :: List.replicate d.pages.length .walkPage) s =
        verified n d (checkOf (dataOf s.pages d.pages)) (reported r 0x14 .ok s)

/-- No command but a cell reset at power-up changes a byte of a page that is in a slot's page list when it is taken. -/
def Obligations.SlotPagesAreNeverWritten : Prop :=
  ∀ (c : Instr) (s : State), PagesPartitioned s → MemoriesSound s → (c ≠ .mainSupplyRise ∨ s.retention = .kept) →
    ∀ t, exec c s = .next t → ∀ (n : SlotNo), ∀ d ∈ s.slots[n], ∀ p ∈ d.pages, ∀ o : Nat, o < 512 →
      pageByte t.pages p o = pageByte s.pages p o

/-- What each master cannot change. While the store is HELD no strobe of the main bus changes the slot table, the pool, pages,
the transaction, the store note, the walk or the hold; at no time does one change the clock, the calendar state, the setting
record, power, battery, retention, the wake note or the side link. An arrival on the side link leaves the port record,
waveform and pattern memory, the layout, page and ring data, day start, catch-up limit, retention and the wake note. -/
def Obligations.MastersKeepToTheirRights : Prop :=
  (∀ (c : Instr) (s : State), storeHeld s = true → isBusStrobe c = true → ∀ t, exec c s = .next t →
    t.slots = s.slots ∧ t.pool = s.pool ∧ t.pages = s.pages ∧ t.txn = s.txn ∧ t.note = s.note
      ∧ t.walk = s.walk ∧ t.hold = s.hold)
  ∧ ((∀ (c : Instr) (s : State), isBusStrobe c = true → ∀ t, exec c s = .next t →
      t.clock = s.clock ∧ t.calendar = s.calendar ∧ t.setting = s.setting ∧ t.power = s.power ∧ t.battery = s.battery
        ∧ t.retention = s.retention ∧ t.wake = s.wake ∧ t.crystal = s.crystal ∧ t.side = s.side ∧ t.resetPin = s.resetPin)
    ∧ (∀ (c : Instr) (s : State), isLinkArrival c = true → ∀ t, exec c s = .next t →
        t.port = s.port ∧ t.busData = s.busData ∧ t.waveMem = s.waveMem ∧ t.patternMem = s.patternMem
          ∧ t.layout = s.layout ∧ t.pages = s.pages ∧ t.ringMem = s.ringMem ∧ t.gameDay.startHour = s.gameDay.startHour
          ∧ t.gameDay.startMinute = s.gameDay.startMinute ∧ t.gameDay.catchUp = s.gameDay.catchUp
          ∧ t.retention = s.retention ∧ t.wake = s.wake ∧ t.crystal = s.crystal ∧ t.resetPin = s.resetPin))

/-! ### Calendar -/

/-- DAY START, CATCH-UP LIMIT and REBASE: the field each sets, clamped or refused as its rule gives, and nothing else but
the report: no turn, no event of the Calendar, no alarm. -/
def Obligations.GameDayCommandResults : Prop :=
  ∀ (r : Bool) (h m : Byte) (v : Half) (s : State), busReady s →
    exec (.dayStart r h m) s =
      .next (if h.toNat ≤ 23 ∧ m.toNat ≤ 59 then
          reported r 0x21 .ok { s with gameDay := { s.gameDay with startHour := h.toNat, startMinute := m.toNat } }
        else reported r 0x21 .range s)
    ∧ exec (.catchUpLimit r v) s =
      .next (reported r 0x22 (if v.toNat ≤ 255 then .ok else .clamped)
        { s with gameDay := { s.gameDay with catchUp := min v.toNat 255 } })
    ∧ exec (.rebase r v) s =
      .next (reported r 0x23 .ok { s with gameDay := { s.gameDay with day := v.toNat, debt := 0 } })

/-- A turn, in every power state: debt above 0 falls by one; else a game day below 65535 rises by one, and DAY_TURN goes to
both queues, which take it while the main supply is present; else nothing. The game day falls, and leaves 65535, at REBASE, by
its row or by the data-port write that completes one, and at a cell reset, and at no other event. -/
def Obligations.TurnRule : Prop :=
  (∀ s : State,
    (0 < s.gameDay.debt →
      turnDay s = ({ s with gameDay := { s.gameDay with debt := s.gameDay.debt - 1 } }, false))
    ∧ (s.gameDay.debt = 0 → s.gameDay.day < 65535 →
        turnDay s = ({ s with
          gameDay := { s.gameDay with day := s.gameDay.day + 1 }
          gameEvents := queueAfter s [(.dayTurn, 0x00)] s.gameEvents
          systemEvents := queueAfter s [(.dayTurn, 0x00)] s.systemEvents }, true))
    ∧ (s.gameDay.debt = 0 → s.gameDay.day = 65535 → turnDay s = (s, false)))
  ∧ (∀ (c : Instr) (s : State), takesRebase c s = false → (c ≠ .mainSupplyRise ∨ s.retention = .kept) →
      ∀ t, exec c s = .next t →
        s.gameDay.day ≤ t.gameDay.day ∧ (s.gameDay.day = 65535 → t.gameDay.day = 65535))

/-- Day numbers and dates are each other's inverse over the 36,525 days from 2000 to 2099, and the next date is the next day
number, across the wrap. The turn instants a setting passes, by the rule's formula, are the instants later than the earlier
time and not later than the later one whose time of day is the day start. -/
def Obligations.CalendarArithmetic : Prop :=
  ((∀ d : Date, d.valid = true → dayNumber d < 36525 ∧ dateOfDay (dayNumber d) = d
    ∧ (nextDate d).valid = true ∧ dayNumber (nextDate d) = (dayNumber d + 1) % 36525)
  ∧ (∀ n : Nat, n < 36525 → (dateOfDay n).valid = true ∧ dayNumber (dateOfDay n) = n))
  ∧ (∀ start t0 t1 : Nat, start < 86400 → t0 ≤ t1 →
      turnInstants start t0 t1 = ((List.range (t1 + 1)).filter fun x => decide (t0 < x ∧ x % 86400 = start)).length)

/-- A second arrival in RUNNING moves the clock to the next instant, with the wrap at the end of 2099, keeps the weekday with the
date, and makes a turn exactly when the new time of day is the day start; in INVALID clock and game day stand. DAY_TURN is
posted first, then the GAME, the REAL and the COUNTDOWN entries due fire, each run in due-list order: each posts ALARM to its
owner's queue, in ACTIVE its action starts the pattern, and the entry is rescheduled by its kind. Nothing else changes; with
retention lost nothing happens at all. (How the crystal's count is kept, what stands while retention is lost, and
that the stop lasts until the rise, a refitted cell or not, are the model's: notes/assumptions/26.md, 27.md, 11.md; ALARM before the pattern's start is deduced: 20.md.) -/
def Obligations.SecondArrivalResults : Prop :=
  ∀ s : State,
    let counted := (List.finRange 8).filter (armedWhere
      (fun d => match d with | .countdown n _ => decide (n ≤ 1) | _ => false) s)
    (s.retention = .lost → exec .secondArrival s = .next s)
    ∧ (s.retention = .kept → s.calendar = .invalid → ∃ t, exec .secondArrival s = .next t
        ∧ t = { s with
            crystal := 0, alarms := t.alarms, rumble := rumbleAfterFires s counted
            gameEvents := queueAfter s (firePosts .game s counted) s.gameEvents
            systemEvents := queueAfter s (firePosts .system s counted) s.systemEvents }
        ∧ ∀ e : Fin 8, t.alarms[e] = s.alarms[e].map (alarmAfterSecond s t))
    ∧ (s.retention = .kept → s.calendar = .running → CalendarSound s → ∃ t, exec .secondArrival s = .next t
        ∧ (let games := if s.gameDay.day < t.gameDay.day then (dueList s).filter (armedWhere
              (fun d => match d with | .game n _ => decide (n ≤ t.gameDay.day) | _ => false) s) else []
           let reals := (List.finRange 8).filter (armedWhere
              (fun d => match d with | .real x _ => decide (instant x = instant t.clock.now) | _ => false) s)
           let fires := games ++ reals ++ counted
           let turned := if s.gameDay.day < t.gameDay.day then [(EventKind.dayTurn, (0x00 : Byte))] else []
           t = { s with
              crystal := 0, clock := t.clock, gameDay := t.gameDay, alarms := t.alarms, rumble := rumbleAfterFires s fires
              gameEvents := queueAfter s (turned ++ firePosts .game s fires) s.gameEvents
              systemEvents := queueAfter s (turned ++ firePosts .system s fires) s.systemEvents })
        ∧ t.clock.now.valid = true
        ∧ instant t.clock.now = (instant s.clock.now + 1) % 3155760000
        ∧ t.clock.weekday = weekdayOf t.clock.now.date
        ∧ t.gameDay =
            (if secondOfDay t.clock.now = s.gameDay.startHour * 3600 + s.gameDay.startMinute * 60
            then s.gameDay.turn.1 else s.gameDay)
        ∧ ∀ e : Fin 8, t.alarms[e] = s.alarms[e].map (alarmAfterSecond s t))

/-- CLOCK SET from the side link: refused RANGE for a date or time that does not exist; else a first, forward, backward
or same setting, each with its clock, calendar state, game-day record and setting record, and the alarms it fires. A forward
setting posts DAY_TURN for each day the game day advances, then fires the GAME entries reached, then posts CLOCK_SET with the
days advanced, at most FEh, then fires the REAL entries passed, each run in due-list order; a first setting posts CLOCK_SET 0
before its REAL entries. (ALARM before the start of the action's pattern is deduced: notes/assumptions/20.md.) -/
def Obligations.ClockSetResults : Prop :=
  ∀ (y mo d h mi se : Byte) (s : State), linkReady s →
    let new : DateTime := {
      date := { year := y.toNat, month := mo.toNat, day := d.toNat }
      hour := h.toNat, minute := mi.toNat, second := se.toNat }
    let c : Instr := .clockSet .system y mo d h mi se
    let clock : ClockRecord := { now := new, weekday := weekdayOf new.date }
    let start := s.gameDay.startHour * 3600 + s.gameDay.startMinute * 60
    let fired (rs es : List (Fin 8)) (days : List (EventKind × Byte)) (detail : Byte) (t : State) : State := { t with
      rumble := rumbleAfterFires s (rs ++ es)
      gameEvents := posted (days ++ firePosts .game s rs ++ [(.clockSet, detail)] ++ firePosts .game s es) s.gameEvents
      systemEvents := posted (days ++ firePosts .system s rs ++ firePosts .system s es) s.systemEvents
      side := { s.side with frame := .taken [0x00] } }
    (new.valid = false → exec c s = .next (replied .range [] s))
    ∧ (new.valid = true → s.calendar = .running → instant new = instant s.clock.now →
        exec c s = .next (replied .ok [] { s with
          setting := { kind := .same, found := 0, applied := 0, advanced := 0, debtAdded := 0 }
          gameEvents := s.gameEvents.post .clockSet 0 }))
    ∧ (new.valid = true → s.calendar = .running → instant new < instant s.clock.now →
        let k := turnInstants start (instant new) (instant s.clock.now)
        exec c s = .next (replied .ok [] { s with
          clock := clock
          gameDay := { s.gameDay with debt := min (s.gameDay.debt + k) 1023 }
          setting := { kind := .backward, found := k, applied := 0, advanced := 0
                       debtAdded := min (s.gameDay.debt + k) 1023 - s.gameDay.debt }
          gameEvents := s.gameEvents.post .clockSet 0xFF }))
    ∧ (new.valid = true → s.calendar = .invalid → ∃ t, exec c s = .next t
        ∧ (let reals := (dueList s).filter (armedWhere
              (fun d => match d with | .real x _ => decide (instant x ≤ instant new) | _ => false) s)
           t = fired [] reals [] 0x00 { s with
            clock := clock, calendar := .running, alarms := t.alarms
            setting := { kind := .first, found := 0, applied := 0, advanced := 0, debtAdded := 0 } })
        ∧ ∀ e : Fin 8, t.alarms[e] = s.alarms[e].map (alarmAfterSetting s t))
    ∧ (new.valid = true → s.calendar = .running → instant s.clock.now < instant new → s.gameDay.day ≤ 65535 →
        let k := turnInstants start (instant s.clock.now) (instant new)
        let n := min k s.gameDay.catchUp
        let day := min (s.gameDay.day + (n - s.gameDay.debt)) 65535
        ∃ t, exec c s = .next t
        ∧ (let games := if s.gameDay.day < day then (dueList s).filter (armedWhere
              (fun d => match d with | .game m _ => decide (m ≤ day) | _ => false) s) else []
           let reals := (dueList s).filter (armedWhere (fun d => match d with
              | .real x _ => decide (instant s.clock.now < instant x ∧ instant x ≤ instant new) | _ => false) s)
           t = fired games reals (List.replicate (day - s.gameDay.day) (.dayTurn, 0x00))
              (BitVec.ofNat 8 (min (day - s.gameDay.day) 254)) { s with
            clock := clock, alarms := t.alarms
            gameDay := { s.gameDay with day := day, debt := s.gameDay.debt - n }
            setting := { kind := .forward, found := k, applied := n, advanced := day - s.gameDay.day, debtAdded := 0 } })
        ∧ ∀ e : Fin 8, t.alarms[e] = s.alarms[e].map (alarmAfterSetting s t))

/-! ### Alarm Table -/

/-- ALARM ARM from either master: the checks in order, the owner judged against the issuer; accepted, every field of the entry
is replaced; an entry that is due already fires at once, with its ALARM and its action, any other waits. ALARM DISARM: NO-SUCH,
PRIVILEGE for an entry of the other master, else the entry is FREE; no event.
(ALARM before the start of the action's pattern is deduced: notes/assumptions/20.md.) -/
def Obligations.AlarmCommandResults : Prop :=
  (∀ (r : Bool) (e k rep action b1 b2 b3 b4 b5 b6 : Byte) (s : State),
    let due := sentDue k rep b1 b2 b3 b4 b5 b6
    let outcome (m : Master) := firstOutcome (
      (decide (8 ≤ e.toNat), .noSuch) :: ((alarmAt s e).any (fun a => decide (a.owner ≠ m)), .privilege)
        :: armChecks k rep action b1 b2 b3 b4 b5 b6)
    let entry (m : Master) : AlarmEntry :=
      { state := .armed, owner := m, due := due, missed := 0, late := false
        action := if action = 0xFF then none else some (Fin.ofNat 4 action.toNat) }
    let now : Bool := match due with
      | .real t _ => decide (s.calendar = .running ∧ instant t ≤ instant s.clock.now)
      | .game d _ => decide (d ≤ s.gameDay.day)
      | .countdown _ _ => false
    let stored (x : AlarmEntry) := s.alarms.setIfInBounds e.toNat (some x)
    let fired (m : Master) : State :=
      let u := { s with alarms := stored (entry m) }
      { s with
        alarms := stored ((entry m).fired s.power s.clock.now s.gameDay.day)
        rumble := rumbleAfterFires u [Fin.ofNat 8 e.toNat]
        gameEvents := posted (firePosts .game u [Fin.ofNat 8 e.toNat]) s.gameEvents
        systemEvents := posted (firePosts .system u [Fin.ofNat 8 e.toNat]) s.systemEvents }
    (busReady s → outcome .game ≠ .ok →
      exec (.alarmArm (.game r) e k rep action b1 b2 b3 b4 b5 b6) s = .next (reported r 0x24 (outcome .game) s))
    ∧ (busReady s → outcome .game = .ok → now = false →
      exec (.alarmArm (.game r) e k rep action b1 b2 b3 b4 b5 b6) s
        = .next (reported r 0x24 .ok { s with alarms := stored (entry .game) }))
    ∧ (busReady s → outcome .game = .ok → now = true →
      exec (.alarmArm (.game r) e k rep action b1 b2 b3 b4 b5 b6) s = .next (reported r 0x24 .ok (fired .game)))
    ∧ (linkReady s → outcome .system ≠ .ok →
      exec (.alarmArm .system e k rep action b1 b2 b3 b4 b5 b6) s = .next (replied (outcome .system) [] s))
    ∧ (linkReady s → outcome .system = .ok → now = false →
      exec (.alarmArm .system e k rep action b1 b2 b3 b4 b5 b6) s
        = .next (replied .ok [] { s with alarms := stored (entry .system) }))
    ∧ (linkReady s → outcome .system = .ok → now = true →
      exec (.alarmArm .system e k rep action b1 b2 b3 b4 b5 b6) s = .next (replied .ok [] (fired .system))))
  ∧ (∀ (r : Bool) (e : Byte) (s : State),
      let outcome (m : Master) := firstOutcome
        [(decide (8 ≤ e.toNat), .noSuch), ((alarmAt s e).any (fun a => decide (a.owner ≠ m)), .privilege)]
      let freed := { s with alarms := s.alarms.setIfInBounds e.toNat none }
      (busReady s → exec (.alarmDisarm (.game r) e) s =
        .next (reported r 0x25 (outcome .game) (if outcome .game = .ok then freed else s)))
      ∧ (linkReady s → exec (.alarmDisarm .system e) s =
        .next (replied (outcome .system) [] (if outcome .system = .ok then freed else s))))

/-- The due list holds exactly the ARMED entries, each once, in due order with ties by entry number.
(That a REAL entry due at the present clock time is first of its run is the model's choice: notes/assumptions/31.md.) -/
def Obligations.DueListIsTheArmedInOrder : Prop :=
  ∀ s : State, AlarmsSound s →
    (∀ e : Fin 8, e ∈ dueList s ↔ s.alarms[e].any (fun a => decide (a.state = .armed)) = true)
    ∧ (dueList s).Pairwise fun e f => ∀ a ∈ s.alarms[e], ∀ b ∈ s.alarms[f], dueBefore s.clock.now e a.due f b.due

/-- A fire's new due: with NONE the entry is SPENT; DAILY and WEEKLY take, of all dates with the due's time of day (and its
weekday), the first strictly after now along the clock's run; every n steps past the game day or ends below 65536; a
countdown reloads or is SPENT at 0. Late says that the due had passed, and missed rises only while OFF, to 15. -/
def Obligations.FireReschedules : Prop :=
  ∀ (a : AlarmEntry) (power : PowerState) (now : DateTime) (day : Nat),
    let f := a.fired power now day
    f.owner = a.owner ∧ f.action = a.action
    ∧ f.missed = (if power = .off then min (a.missed + 1) 15 else a.missed)
    ∧ f.late = (match a.due with
        | .real t _ => decide (instant t < instant now) | .game d _ => decide (d < day) | .countdown _ _ => false)
    ∧ (match a.due with
        | .real t .none => f.state = .spent ∧ f.due = .real t .none
        | .real t .daily => now.valid = true → t.valid = true →
            ∃ u, f.due = .real u .daily ∧ f.state = .armed ∧ u.valid = true ∧ secondOfDay u = secondOfDay t
              ∧ ∀ v : DateTime, v.valid = true → secondOfDay v = secondOfDay t → secondsUntil now u ≤ secondsUntil now v
        | .real t .weekly => now.valid = true → t.valid = true →
            ∃ u, f.due = .real u .weekly ∧ f.state = .armed ∧ u.valid = true ∧ secondOfDay u = secondOfDay t
              ∧ weekdayOf u.date = weekdayOf t.date
              ∧ ∀ v : DateTime, v.valid = true → secondOfDay v = secondOfDay t → weekdayOf v.date = weekdayOf t.date →
                  secondsUntil now u ≤ secondsUntil now v
        | .game d 0 => f.state = .spent ∧ f.due = .game d 0
        | .game d (n + 1) => d ≤ day → day ≤ 65535 →
            ∃ j, (f.state = .armed ∧ f.due = .game (d + (j + 1) * (n + 1)) (n + 1)
                ∧ d + j * (n + 1) ≤ day ∧ day < d + (j + 1) * (n + 1) ∧ d + (j + 1) * (n + 1) ≤ 65535)
              ∨ (f.state = .spent ∧ f.due = .game (d + j * (n + 1)) (n + 1)
                ∧ d + j * (n + 1) ≤ day ∧ 65535 < d + (j + 1) * (n + 1))
        | .countdown _ none => f.state = .spent ∧ f.due = .countdown 0 none
        | .countdown _ (some r) => f.state = .armed ∧ f.due = .countdown r (some r))

/-- The seconds of a COUNTDOWN entry reaching 0 fire it: ALARM in its owner's queue unless the power state is OFF, the entry
rescheduled, and the action's pattern started in ACTIVE alone. An entry with more than one second left, a SPENT entry, and one
of another kind are left as they are. (The row's reading is the model's: notes/assumptions/15.md; ALARM before the start of the
action's pattern is deduced: 20.md; what a stop of the count while retention is lost keeps, and that it
lasts until the rise, are the model's: 11.md.) -/
def Obligations.CountdownExpiryFires : Prop :=
  ∀ (s : State) (e : Fin 8),
    (s.retention = .lost → exec (.countdownExpiry e) s = .next s)
    ∧ (s.alarms[e] = none → exec (.countdownExpiry e) s = .next s)
    ∧ (∀ a ∈ s.alarms[e],
      (a.state = .spent → exec (.countdownExpiry e) s = .next s)
      ∧ (∀ n r, a.due = .countdown n r → s.retention = .kept → a.state = .armed → n ≤ 1 →
        exec (.countdownExpiry e) s = .next { s with
          alarms := s.alarms.set e.val (some (a.fired s.power s.clock.now s.gameDay.day)) e.isLt
          rumble := rumbleAfterFires s [e]
          gameEvents := queueAfter s (firePosts .game s [e]) s.gameEvents
          systemEvents := queueAfter s (firePosts .system s [e]) s.systemEvents })
      ∧ (∀ n r, a.due = .countdown n r → 2 ≤ n → exec (.countdownExpiry e) s = .next s)
      ∧ (∀ x r, a.due = .real x r → exec (.countdownExpiry e) s = .next s)
      ∧ (∀ x r, a.due = .game x r → exec (.countdownExpiry e) s = .next s))

/-! ### Voice Engine, Stream Ring, Mixer -/

/-- VOICE SET, VOICE PITCH, VOICE LEVEL and WAVE LAYOUT: the first check that fails, the fields each sets, what is clamped.
None changes the countdown, the position, the state or the current sample of a voice. -/
def Obligations.VoiceCommandResults : Prop :=
  ∀ (r : Bool) (b code start loop flags tune vol dir per : Byte) (d : Half) (s : State), busReady s →
    (let o := firstOutcome
        [(decide (5 ≤ b.toNat), .noSuch), (decide (32 ≤ code.toNat), .noSuch), (decide (3 < flags.toNat), .range)]
     exec (.voiceSet r b code start loop flags) s = .next (reported r 0x30 o (
      if o = .ok then { s with voices := Vector.ofFn fun v : Fin 5 => if v.val = b.toNat then { s.voices[v] with
          code := code.toNat, start := start.toNat, loopPosition := loop.toNat
          loop := flags.getLsbD 0, stopAtZero := flags.getLsbD 1 } else s.voices[v] }
      else s)))
    ∧ (let top := min d.toNat 2047
       let sum := (top : Int) + tune.toInt
       let pitched (x : Divider) : Divider :=
         { x with d := top, detune := tune, effective := (max 0 (min sum 2047)).toNat }
       exec (.voicePitch r b d tune) s = .next (
        if 6 ≤ b.toNat then reported r 0x33 .noSuch s
        else reported r 0x33 (if 2047 < d.toNat ∨ sum < 0 ∨ 2047 < sum then .clamped else .ok) { s with
          voices := Vector.ofFn fun v : Fin 5 => if v.val = b.toNat
            then { s.voices[v] with divider := pitched s.voices[v].divider } else s.voices[v]
          voice5 := if b.toNat = 5 then { s.voice5 with divider := pitched s.voice5.divider } else s.voice5 }))
    ∧ (let e : Envelope := {
          volume := min vol.toNat 15, period := min per.toNat 7, count := 0
          direction := if dir = 0x00 then .none else if dir = 0x01 then .up else .down }
       exec (.voiceLevel r b vol dir per) s = .next (
        if 6 ≤ b.toNat then reported r 0x34 .noSuch s
        else if 2 < dir.toNat then reported r 0x34 .range s
        else reported r 0x34 (if 15 < vol.toNat ∨ 7 < per.toNat then .clamped else .ok) { s with
          voices := Vector.ofFn fun v : Fin 5 => if v.val = b.toNat then { s.voices[v] with envelope := e } else s.voices[v]
          voice5 := if b.toNat = 5 then { s.voice5 with envelope := e } else s.voice5 }))
    ∧ exec (.waveLayout r b) s = .next (
        if 1 < b.toNat then reported r 0x35 .range s
        else reported r 0x35 .ok { s with layout := if b = 0x01 then .long else .short })

/-- The waveform a code selects: its length; for codes 0-7 the bytes of waveform memory that the layout gives it; for codes 8-31
the samples of the built-in waveforms: eight pulses, triangle, two saws, sine, their halves, and the noise of a 15-bit generator
seeded for the code. -/
def Obligations.WaveformsOfTheCodes : Prop :=
  (∀ code : Nat, waveLength .short code = 32 ∧ waveLength .long code = if code ≤ 7 then 64 else 32)
  ∧ (∀ (s : State) (code i : Nat), code ≤ 7 →
      (s.layout = .short → i < 32 → waveSample s code i = Memory.read 0x00 s.waveMem (32 * code + i))
      ∧ (s.layout = .long → i < 64 → waveSample s code i = Memory.read 0x00 s.waveMem (64 * (code / 2) + i)))
  ∧ (∀ (s : State) (code i : Fin 32), 8 ≤ code.val →
      let sample (c k : Nat) : Int := (waveSample s c k).toInt
      let n : Int := i.val
      (code.val ≤ 15 → sample code i = if i.val < 2 * (code.val - 7) then 96 else -96)
      ∧ sample 16 i = (if i.val ≤ 15 then -120 + 16 * n else 120 - 16 * (n - 16))
      ∧ sample 17 i = -124 + 8 * n
      ∧ sample 18 i = 124 - 8 * n
      ∧ (∀ v ∈ [(0 : Int), 23, 46, 67, 85, 100, 111, 118, 120][i.val]?, sample 19 i = v)
      ∧ (9 ≤ i.val → i.val ≤ 16 → sample 19 i = sample 19 (16 - i.val))
      ∧ (17 ≤ i.val → sample 19 i = -sample 19 (i.val - 16))
      ∧ (20 ≤ code.val → code.val ≤ 23 → sample code i = (sample (code.val - 4) i).tdiv 2)
      ∧ (24 ≤ code.val → sample code i =
          if (noiseGenerator code i).getLsbD 0 != (noiseGenerator code i).getLsbD 1 then 96 else -96))

/-- VOICE START restarts and VOICE STOP stops every selected voice in one update, voice 5 in the ring with it; bits 6 and 7
of the mask are ignored, no event is posted and the outcome is OK. -/
def Obligations.VoiceStartAndStopResults : Prop :=
  ∀ (r : Bool) (mask : Byte) (s : State), busReady s →
    let run : StreamRun := if 256 ≤ s.ring.level then .playing else .priming
    exec (.voiceStart r mask) s = .next (reported r 0x31 .ok { s with
      voices := Vector.ofFn fun v : Fin 5 =>
        let x := s.voices[v]
        let p := x.start % waveLength s.layout x.code
        if mask.getLsbD v.val then { x with
          state := if s.power = .sleep then .paused else .playing
          position := p, sample := waveSample s x.code p
          divider := { x.divider with countdown := x.divider.effective }, envelope := { x.envelope with count := 0 } }
        else x
      voice5 := if mask.getLsbD 5 then {
          divider := { s.voice5.divider with countdown := s.voice5.divider.effective }
          envelope := { s.voice5.envelope with count := 0 } }
        else s.voice5
      ring := if mask.getLsbD 5 then { s.ring with
          state := if s.power = .sleep then .paused run else .run run
          held := if s.ring.state = .idle then 0x00 else s.ring.held }
        else s.ring })
    ∧ exec (.voiceStop r mask) s = .next (reported r 0x32 .ok { s with
      voices := Vector.ofFn fun v : Fin 5 =>
        if mask.getLsbD v.val then { s.voices[v] with state := .stopped, sample := 0x00 } else s.voices[v]
      ring := if mask.getLsbD 5 then { s.ring with state := .idle, held := 0x00 } else s.ring })

/-- A step of a table voice and a move of an envelope, as arrivals of their own: nothing at a voice that does not run or whose
count is not at its end; else the countdown reloaded and the case of the position, or the volume moved and a voice faded out
stopped, and nothing else. So a step after VOICE START and a move after VOICE LEVEL are not taken, the count being reloaded.
(That these rows wait for the count is the model's reading: notes/assumptions/15.md.) -/
def Obligations.VoiceStepAndEnvelopeMove : Prop :=
  (∀ s : State, s.power ≠ .off →
    (∀ v : Fin 5,
      let x := s.voices[v]
      exec (.voiceStep v) s = .next (
        if x.state = .playing ∧ x.divider.countdown = 0 then { s with
          voices := s.voices.set v.val (steppedVoice s x) v.isLt
          gameEvents := if stepEnds s x then s.gameEvents.post .voiceEnd (BitVec.ofNat 8 v.val) else s.gameEvents }
        else s)
      ∧ exec (.envelopeMove (Fin.ofNat 6 v.val)) s = .next (
        if x.state = .playing ∧ x.envelope.active = true ∧ moveIsDue x.envelope = true then { s with
          voices := s.voices.set v.val (movedVoice x) v.isLt
          gameEvents := if moveStops x then s.gameEvents.post .voiceEnd (BitVec.ofNat 8 v.val) else s.gameEvents }
        else s))
    ∧ exec (.envelopeMove 5) s = .next (
        if s.ring.state.running = true ∧ s.voice5.envelope.active = true ∧ moveIsDue s.voice5.envelope = true then
          { s with voice5 := { s.voice5 with envelope := movedEnvelope s.voice5.envelope } }
        else s))
  ∧ (∀ (r : Bool) (mask vol dir per : Byte) (s : State), busReady s → ∀ v : Fin 5,
      (mask.getLsbD v.val = true → 0 < s.voices[v].divider.effective →
        afterAll [.voiceStart r mask, .voiceStep v] s = after (.voiceStart r mask) s)
      ∧ (dir.toNat ≤ 2 → afterAll [.voiceLevel r (BitVec.ofNat 8 v.val) vol dir per, .envelopeMove (Fin.ofNat 6 v.val)] s
        = after (.voiceLevel r (BitVec.ofNat 8 v.val) vol dir per) s))

/-- RING SET, RING FLUSH, MIX SET and CLIP CLEAR: the fields each sets, what is clamped or refused, and nothing else but the
report; a MIX SET that disables the output brings the DAC code to 512. -/
def Obligations.RingAndMixerCommandResults : Prop :=
  ∀ (r : Bool) (b mode on : Byte) (s : State), busReady s →
    exec (.ringSet r b) s = .next (reported r 0x36 (if b.toNat ≤ 31 then .ok else .clamped)
      { s with ring := { s.ring with lowMark := 64 * min b.toNat 31 } })
    ∧ exec (.ringFlush r) s = .next (reported r 0x37 .ok { s with ring := { s.ring with
        play := s.ring.fill, level := 0, overrun := 0
        state := match s.ring.state with | .idle => .idle | .run _ => .run .priming | .paused _ => .paused .priming } })
    ∧ exec (.mixSet r b mode on) s = .next (
        if 1 < mode.toNat ∨ 1 < on.toNat then reported r 0x38 .range s
        else reported r 0x38 (if b.toNat ≤ 63 then .ok else .clamped) { s with mixer := { s.mixer with
          master := min b.toNat 63, rounding := if mode = 0x01 then .nearest else .floor
          enabled := decide (on = 0x01), dac := if on = 0x01 then s.mixer.dac else 512 } })
    ∧ exec (.clipClear r) s = .next (reported r 0x39 .ok { s with mixer := { s.mixer with clip := false } })

/-- The ring is a first-in first-out queue of at most 2048 bytes: a write puts its byte last among the unplayed bytes, or is
dropped and counted when 2048 wait; a step of a PLAYING stream takes the first of them as the held sample, or makes the
stream STARVED when none waits; the 256th byte makes a waiting stream PLAYING; a fall below the low mark posts RING_LOW.
(That the step's row waits for the countdown is the model's reading: notes/assumptions/15.md.) -/
def Obligations.RingIsAQueue : Prop :=
  (∀ (b : Byte) (s : State), busReady s → s.port.target = .ring → RingSound s → MemoriesSound s →
    ∃ t, exec (.dataWrite b) s = .next t
      ∧ t = { s with ring := t.ring, ringMem := t.ringMem }
      ∧ (s.ring.level < 2048 → unplayed t = unplayed s ++ [b] ∧ t.ring = { s.ring with
          fill := (s.ring.fill + 1) % 2048, level := s.ring.level + 1
          state := if s.ring.level + 1 = 256 then
              (match s.ring.state with | .idle => .idle | .run _ => .run .playing | .paused _ => .paused .playing)
            else s.ring.state })
      ∧ (s.ring.level = 2048 → unplayed t = unplayed s
          ∧ t.ring = { s.ring with overrun := min (s.ring.overrun + 1) 255 }))
  ∧ (∀ s : State, s.power ≠ .off →
      let u := { s with voice5 := { s.voice5 with
        divider := { s.voice5.divider with countdown := s.voice5.divider.effective } } }
      (s.ring.state.running = false ∨ 0 < s.voice5.divider.countdown → exec .streamStep s = .next s)
      ∧ (s.voice5.divider.countdown = 0 → s.ring.state = .run .priming ∨ s.ring.state = .run .starved →
          exec .streamStep s = .next u)
      ∧ (s.voice5.divider.countdown = 0 → s.ring.state = .run .playing → s.ring.level = 0 → exec .streamStep s = .next { u with
          ring := { s.ring with state := .run .starved }, gameEvents := s.gameEvents.post .starve 5 })
      ∧ (∀ b ∈ (unplayed s).head?, s.voice5.divider.countdown = 0 → s.ring.state = .run .playing → RingSound s →
          ∃ t, exec .streamStep s = .next t ∧ unplayed t = (unplayed s).tail
            ∧ t = { u with
              ring := { s.ring with held := b, play := (s.ring.play + 1) % 2048, level := s.ring.level - 1 }
              gameEvents := if s.ring.level = s.ring.lowMark then s.gameEvents.post .ringLow 5 else s.gameEvents }))

/-- A frame arrival: every running envelope counts it, and moves at E × 512; in ACTIVE with the output enabled the Mixer
forms the DAC code by the eight stages from the voices as it takes them, each voice after or before its envelope as the
arrival's operand says (the model's operand: notes/assumptions/17.md); a clamp with the clip flag clear sets it and posts
CLIP; in any other frame the code is 512. The crystal's count goes on, and the MOTOR period, whose fifteenth frame ends it: the
next takes up the effective level. Without the main supply the crystal's count alone goes on. Nothing else changes.
(How the crystal's count is kept, and that it stands while retention is lost, are the model's: notes/assumptions/26.md, 27.md, 11.md.) -/
def Obligations.FrameArrivalResult : Prop :=
  (∀ (first : BitVec 6) (s : State), s.power = .off → exec (.frameArrival first) s
    = .next { s with crystal := if s.retention = .lost then s.crystal else (s.crystal + 1) % 32768 })
  ∧ ∀ (first : BitVec 6) (s : State), s.power ≠ .off → ∃ t, exec (.frameArrival first) s = .next t
    ∧ t = { s with
        voices := t.voices, voice5 := t.voice5, mixer := t.mixer, gameEvents := t.gameEvents
        crystal := if s.retention = .lost then s.crystal else (s.crystal + 1) % 32768
        motor := if 14 ≤ s.motorFrame then s.rumble.level else s.motor
        motorFrame := if 14 ≤ s.motorFrame then 0 else s.motorFrame + 1 }
    ∧ (∀ v : Fin 5, t.voices[v] = voiceAfterFrame s.voices[v])
    ∧ t.voice5 = (if s.ring.state.running = true ∧ s.voice5.envelope.active = true then
        { s.voice5 with
          envelope := if moveIsDue s.voice5.envelope then movedEnvelope s.voice5.envelope
            else { s.voice5.envelope with count := s.voice5.envelope.count + 1 } }
        else s.voice5)
    ∧ (let a := mixSum (fun v => if first.getLsbD v.val then t.voices[v] else s.voices[v])
         (if first.getLsbD 5 then t.voice5 else s.voice5) s.ring
       let me := min s.mixer.master (match s.battery with | .good => 63 | .low => 40 | .critical => 0)
       let c : Int := Int.fdiv (a * (me : Int) + (match s.mixer.rounding with | .floor => 0 | .nearest => 256)) 512
       let computed := decide (s.power = .active ∧ s.mixer.enabled = true)
       let clamps := computed && decide (c < -512 ∨ 511 < c)
       t.mixer = (if computed then { s.mixer with
            me := me, dac := (max (-512) (min c 511) + 512).toNat, clip := s.mixer.clip || clamps }
          else { s.mixer with dac := 512 })
       ∧ t.gameEvents =
        (let ends (b : Bool) := ((List.finRange 5).filter fun v => first.getLsbD v.val == b && stopsAtFrame s.voices[v]).map
            fun v => (EventKind.voiceEnd, BitVec.ofNat 8 v.val)
         posted (ends true ++ (if clamps && !s.mixer.clip then [(EventKind.clip, 0x00)] else []) ++ ends false) s.gameEvents))

/-! ### Rumble Driver -/

/-- The five rumble commands: the mode or limit each sets, with the effective level formed at once; what is clamped or
refused, the level formed there too, as the command is taken; an empty pattern ends at its start with RUMBLE_END. The run
counter and the rest are never touched. -/
def Obligations.RumbleCommandResults : Prop :=
  ∀ (r : Bool) (b n : Byte) (s : State), busReady s →
    let formed : State := { s with rumble := { s.rumble with level := formedLevel s (modeLevel s) } }
    exec (.rumbleDirect r b) s = .next (reported r 0x40 (if b.toNat ≤ 15 then .ok else .clamped)
      (withMode (.direct (min b.toNat 15)) (min b.toNat 15) s))
    ∧ exec (.rumbleStop r) s = .next (reported r 0x43 .ok (withMode .off 0 s))
    ∧ exec (.rumbleLink r b) s = .next (
        if 6 ≤ b.toNat then reported r 0x42 .noSuch formed
        else reported r 0x42 .ok (withMode (.linked (Fin.ofNat 6 b.toNat)) (linkedLevel s (Fin.ofNat 6 b.toNat)) s))
    ∧ exec (.rumblePattern r b n) s = .next (
        if 4 ≤ b.toNat then reported r 0x41 .noSuch formed
        else if 15 < n.toNat then reported r 0x41 .range formed
        else
          let p := Fin.ofNat 4 b.toNat
          if stepDuration s p 0 = 0 then
            reported r 0x41 .ok { withMode .off 0 s with gameEvents := s.gameEvents.post .rumbleEnd b }
          else reported r 0x41 .ok (withMode (loadedStep s p n.toNat 0) (min (stepLevelByte s p 0).toNat 15) s))
    ∧ exec (.rumbleLimit r b) s = .next (reported r 0x44 (if b.toNat = 0 ∨ 60 < b.toNat then .clamped else .ok)
        { s with rumble := { s.rumble with
          runLimit := 128 * max 1 (min b.toNat 60), level := formedLevel s (modeLevel s) } })

/-- The bytes of a pattern's steps, the level of each mode, and the MOTOR pin: a LINKED driver takes the volume of a PLAYING voice
or of voice 5 with the stream PLAYING, and 0 otherwise; the effective level is the mode level within the battery's cap, and 0
outside ACTIVE and while RESTING; in a period of fifteen frames the pin is high for as many as the level it began with, and the
next period takes up the level standing then. -/
def Obligations.RumbleLevelsAndPin : Prop :=
  (∀ (s : State) (p : Fin 4) (k : Nat), k ≤ 15 →
    stepLevelByte s p k = Memory.read 0x00 s.patternMem (32 * p.val + 2 * k)
    ∧ stepDuration s p k = (Memory.read 0x00 s.patternMem (32 * p.val + 2 * k + 1)).toNat)
  ∧ (∀ s : State, modeLevel s = match s.rumble.mode with
      | .off => 0 | .direct l => l | .pattern _ _ _ l _ => l | .linked v => linkedLevel s v)
  ∧ (∀ (s : State) (v : Fin 5),
      linkedLevel s (Fin.ofNat 6 v.val) = if s.voices[v].state = .playing then s.voices[v].envelope.volume else 0)
  ∧ (∀ s : State, linkedLevel s 5 = if s.ring.state = .run .playing then s.voice5.envelope.volume else 0)
  ∧ (∀ s : State, effectiveLevel s =
      if s.power = .active ∧ s.rumble.rest = none
      then min (modeLevel s) (match s.battery with | .good => 15 | .low => 8 | .critical => 0) else 0)
  ∧ (∀ (s : State) (first : BitVec 6) (k : Fin 16), s.power ≠ .off → s.motorFrame = 0 →
      let t := afterAll (List.replicate k.val (.frameArrival first)) s
      (k.val < 15 → motorHigh t = decide (k.val < s.motor))
      ∧ (k.val = 15 → t.motor = s.rumble.level ∧ motorHigh t = decide (0 < s.rumble.level)))

/-- A tick in ACTIVE: the run accounting by the level before it, then the pattern's step, then the effective level, with
RUMBLE_CUT before RUMBLE_END; in SLEEP nothing. The rows for a step's end, a rest's begin and end and a motor period's start do
that part alone, once their count is at its end (the model's reading: notes/assumptions/15.md). Nothing else changes. -/
def Obligations.RumbleTickResults : Prop :=
  ∀ s : State,
    (s.power ≠ .active → exec .tick s = .next s ∧ exec .patternStepEnd s = .next s ∧ exec .restBegin s = .next s
      ∧ exec .restEnd s = .next s)
    ∧ exec .motorPeriod s = .next (
        if s.power ≠ .off ∧ 14 ≤ s.motorFrame then { s with motor := s.rumble.level, motorFrame := 0 } else s)
    ∧ (s.power = .active →
      (∃ t, exec .tick s = .next t
        ∧ t = { s with rumble := t.rumble, gameEvents := t.gameEvents }
        ∧ (∀ k ∈ s.rumble.rest, t.rumble.rest = (if k ≤ 1 then none else some (k - 1))
            ∧ t.rumble.runCounter = if k ≤ 1 then 0 else s.rumble.runCounter)
        ∧ (s.rumble.rest = none → 0 < s.rumble.level → t.rumble.runCounter = s.rumble.runCounter + 1
            ∧ t.rumble.rest = if s.rumble.runLimit ≤ s.rumble.runCounter + 1 then some 128 else none)
        ∧ (s.rumble.rest = none → s.rumble.level = 0 → t.rumble.runCounter = s.rumble.runCounter - 1
            ∧ t.rumble.rest = none)
        ∧ t.rumble.mode = (match s.rumble.mode with
            | .pattern p n k l d => if d ≤ 1 then (followingStep s p n k).getD .off else .pattern p n k l (d - 1)
            | m => m)
        ∧ t.rumble.runLimit = s.rumble.runLimit
        ∧ t.rumble.level = formedLevel t (modeLevel t)
        ∧ t.gameEvents =
            let cut := decide (s.rumble.rest = none ∧ 0 < s.rumble.level ∧ s.rumble.runLimit ≤ s.rumble.runCounter + 1)
            let q := if cut then s.gameEvents.post .rumbleCut 0 else s.gameEvents
            match s.rumble.mode with
            | .pattern p n k _ d =>
              if d ≤ 1 ∧ followingStep s p n k = none then q.post .rumbleEnd (BitVec.ofNat 8 p.val) else q
            | _ => q)
      ∧ exec .patternStepEnd s = .next (match s.rumble.mode with
          | .pattern p n k _ d =>
            if 1 < d then s else
            match followingStep s p n k with
            | none => { withMode .off 0 s with gameEvents := s.gameEvents.post .rumbleEnd (BitVec.ofNat 8 p.val) }
            | some (.pattern q m j l d) => withMode (.pattern q m j l d) l s
            | some _ => s
          | _ => s)
      ∧ exec .restBegin s = .next (
          if s.rumble.rest = none ∧ 0 < s.rumble.level ∧ s.rumble.runLimit ≤ s.rumble.runCounter + 1 then { s with
            rumble := { s.rumble with rest := some 128, level := 0, runCounter := s.rumble.runCounter + 1 }
            gameEvents := s.gameEvents.post .rumbleCut 0 }
          else s)
      ∧ exec .restEnd s = .next (
          if s.rumble.rest.all (fun k => decide (1 < k)) then s
          else { s with rumble := { s.rumble with
            rest := none, runCounter := 0, level := min (modeLevel s) s.battery.rumbleCap } }))

/-! ### Event Unit -/

/-- A post acts by the first case of the rule's table, and leaves the mask and the line enable; an alert line is asserted
exactly when the line enable is set and some pending kind, in the queue or in the lost set, is unmasked; a post reaches its
master's queue whenever the main supply is present, and nothing while it is absent.
(The line as a function of the record is deduced: notes/assumptions/14.md.) -/
def Obligations.PostsAndAlertLines : Prop :=
  (∀ (e : EventRecord) (k : EventKind) (d : Byte),
    let matching := e.queue.any fun x => decide (x.kind = k ∧ x.detail = d)
    (matching = true → e.post k d = { e with queue := e.queue.map fun x =>
        if x.kind = k ∧ x.detail = d then { x with count := min (x.count + 1) 15 } else x })
    ∧ (matching = false → e.queue.length < 8 →
        e.post k d = { e with queue := e.queue ++ [{ kind := k, detail := d, count := 1 }] })
    ∧ (matching = false → 8 ≤ e.queue.length → e.post k d = { e with lost := (e.post k d).lost }
        ∧ ∀ i : Fin 18, (e.post k d).lost.getLsbD i.val = (e.lost.getLsbD i.val || decide (i.val = k.number))))
  ∧ (∀ e : EventRecord, e.line = (e.lineEnable && (List.finRange 18).any fun i =>
      (e.lost.getLsbD i.val || e.queue.any fun x => decide (x.kind.number = i.val)) && !e.mask.getLsbD i.val))
  ∧ (∀ (k : EventKind) (d : Byte) (s : State),
      (s.power ≠ .off → postGame k d s = { s with gameEvents := s.gameEvents.post k d }
        ∧ postSystem k d s = { s with systemEvents := s.systemEvents.post k d })
      ∧ (s.power = .off → postGame k d s = s ∧ postSystem k d s = s))

/-- EVENT ACK, EVENT ACK LOST, EVENT MASK and LINE ENABLE act on the record of the master that issues them and on nothing
else but its report or reply; LINE ENABLE takes 00h and 01h and is refused RANGE for any other byte. -/
def Obligations.EventCommandResults : Prop :=
  ∀ (r : Bool) (m1 m2 m3 b : Byte) (s : State),
    let acked (e : EventRecord) : EventRecord := { e with queue := e.queue.drop 1 }
    let found (e : EventRecord) : EventRecord := { e with lost := 0 }
    let masked (e : EventRecord) : EventRecord :=
      { e with mask := BitVec.ofNat 18 (m1.toNat * 65536 + m2.toNat * 256 + m3.toNat) }
    let enabled (e : EventRecord) : EventRecord := if b.toNat ≤ 1 then { e with lineEnable := decide (b = 0x01) } else e
    let o : OutcomeCode := if b.toNat ≤ 1 then .ok else .range
    (busReady s →
      exec (.eventAck (.game r)) s = .next (reported r 0x50 .ok { s with gameEvents := acked s.gameEvents })
      ∧ exec (.eventAckLost (.game r)) s = .next (reported r 0x51 .ok { s with gameEvents := found s.gameEvents })
      ∧ exec (.eventMask (.game r) m1 m2 m3) s = .next (reported r 0x52 .ok { s with gameEvents := masked s.gameEvents })
      ∧ exec (.lineEnable (.game r) b) s = .next (reported r 0x53 o { s with gameEvents := enabled s.gameEvents }))
    ∧ (linkReady s →
      exec (.eventAck .system) s = .next (replied .ok [] { s with systemEvents := acked s.systemEvents })
      ∧ exec (.eventAckLost .system) s = .next (replied .ok [] { s with systemEvents := found s.systemEvents })
      ∧ exec (.eventMask .system m1 m2 m3) s = .next (replied .ok [] { s with systemEvents := masked s.systemEvents })
      ∧ exec (.lineEnable .system b) s = .next (replied o [] { s with systemEvents := enabled s.systemEvents }))

/-! ### Supply, reset and retention -/

/-- SILENCE stops every voice, empties the stream and turns the rumble off; BATTERY sets the battery state, posts BATTERY and
the cap cut when it changes; POWER MODE pauses or resumes voices and stream and forms the rumble level; each is refused RANGE
or answered OK, and changes nothing else. (That a return to ACTIVE resumes voices and stream before a LINKED driver reads its
voice is the model's choice: notes/assumptions/22.md.) -/
def Obligations.SystemRequestResults : Prop :=
  ∀ (b : Byte) (s : State), linkReady s →
    exec (.silence .system) s = .next (replied .ok [] (withMode .off 0 { s with
      voices := Vector.ofFn fun v : Fin 5 => { s.voices[v] with state := .stopped, sample := 0x00 }
      ring := { s.ring with play := s.ring.fill, level := 0, overrun := 0, state := .idle, held := 0x00 } }))
    ∧ exec (.battery .system b) s = .next (
        let new : BatteryState := if b = 0x00 then .good else if b = 0x01 then .low else .critical
        if 2 < b.toNat then replied .range [] s
        else if new = s.battery then replied .ok [] s
        else
          let u := { s with battery := new }
          replied .ok [] { u with
            rumble := { s.rumble with level := formedLevel u (modeLevel s) }
            gameEvents :=
              let q := s.gameEvents.post .battery b
              if new = .critical ∧ 0 < modeLevel s then q.post .rumbleCut 1 else q })
    ∧ (1 < b.toNat → exec (.powerMode .system b) s = .next (replied .range [] s))
    ∧ (b = 0x01 → exec (.powerMode .system b) s = .next (
        if s.power = .sleep then replied .ok [] s
        else replied .ok [] { s with
          power := .sleep
          voices := Vector.ofFn fun v : Fin 5 =>
            if s.voices[v].state = .playing then { s.voices[v] with state := .paused } else s.voices[v]
          ring := { s.ring with state := match s.ring.state with | StreamState.run x => .paused x | x => x }
          mixer := { s.mixer with dac := 512 }, rumble := { s.rumble with level := 0 } }))
    ∧ (b = 0x00 → exec (.powerMode .system b) s = .next (
        if s.power = .active then replied .ok [] s
        else
          let u := { s with
            power := .active
            voices := Vector.ofFn fun v : Fin 5 =>
              if s.voices[v].state = VoiceState.paused then { s.voices[v] with state := .playing } else s.voices[v]
            ring := { s.ring with state := match s.ring.state with | StreamState.paused x => .run x | x => x } }
          replied .ok [] { u with rumble := { s.rumble with level := formedLevel u (modeLevel u) } }))

/-- A fall of the main supply records day and date in the wake note, ends transaction, hold and walk, and loses the main
domain; a rise brings it up at its power-up values, completes the wake note, clears the missed counts and posts WAKE; with
retention LOST it first performs a cell reset. (What the lost records hold while OFF, and a rise or fall with no change of
the supply, are the model's: notes/assumptions/7.md, 9.md, 11.md; so are the page bytes after a cell reset, 12.md, the ring's bytes
at power-up, 13.md, and the record of the last read and the bits sampled, 24.md.) -/
def Obligations.SupplyResults : Prop :=
  ∀ s : State,
    let lost (t : State) : State := { t with
      port := .initial, busData := 0x00, side := .initial, walk := .none
      voices := Vector.replicate 5 .initial, voice5 := .initial, waveMem := [], layout := .short
      ringMem := [], ring := .initial, mixer := .initial, rumble := .initial, patternMem := [], motor := 0, motorFrame := 0
      gameEvents := .initial, systemEvents := .initial, battery := .good }
    let fallen : State := lost { s with
      power := .off, hold := .notHeld
      wake := { s.wake with
        powerDownDay := some s.gameDay.day
        powerDownDate := if s.calendar = .running then some s.clock.now.date else none } }
    let woken (n : Byte) (t : State) : State := { t with
      power := .active
      gameEvents := { EventRecord.initial with queue := [{ kind := .wake, detail := n, count := 1 }] }
      systemEvents := { EventRecord.initial with queue := [{ kind := .wake, detail := n, count := 1 }] } }
    (s.power = .off → exec .mainSupplyFall s = .next s)
    ∧ (s.power ≠ .off → exec .mainSupplyRise s = .next s ∧ exec .retentionLoss s = .next s)
    ∧ (s.power ≠ .off → s.txn = none → exec .mainSupplyFall s = .next fallen)
    ∧ (∀ x ∈ s.txn, s.power ≠ .off → exec .mainSupplyFall s = .next { joinPool x.staging fallen with
        txn := none, note := .ended .lostPower x.slot })
    ∧ (s.power = .off → exec .retentionLoss s = .next { s with retention := .lost })
    ∧ (∀ d ∈ s.wake.powerDownDay, s.power = .off → s.retention = .kept → exec .mainSupplyRise s = .next (woken 0 (lost { s with
        wake := { s.wake with
          afterCellReset := false, daysElapsed := min (s.gameDay.day - d) 65535
          missed := (List.finRange 8).filterMap fun e =>
            s.alarms[e].bind fun a => if 0 < a.missed then some (e, a.missed) else none }
        alarms := Vector.ofFn fun e : Fin 8 => s.alarms[e].map fun a => { a with missed := 0 } })))
    ∧ (s.power = .off → s.retention = .lost → exec .mainSupplyRise s = .next (woken 1 (lost { s with
        retention := .kept, wake := .afterReset
        pages := [], slots := Vector.replicate 8 none, pool := List.finRange 64, note := .none
        txn := none, hold := .notHeld
        calendar := .invalid, clock := .initial, gameDay := .initial, setting := .initial
        alarms := Vector.replicate 8 none })))

/-- An assertion of RESET: the game side at its power-up values, a FILLING or OPEN transaction rolled back with no event, a
VERIFY walk abandoned, a check walk going on, and the hold that waited for a walk so ended granted; the rest is kept. The
release changes the pin alone; an assertion without the main supply changes the pin alone (the model's: notes/assumptions/10.md).
(The motor's stop is deduced: notes/assumptions/23.md; the ring's bytes after the reset are the model's: 13.md.) -/
def Obligations.BusResetResult : Prop :=
  ∀ s : State,
    let game (t : State) : State := { t with
      resetPin := true, port := .initial, voices := Vector.replicate 5 .initial, voice5 := .initial
      waveMem := [], layout := .short, ringMem := [], ring := .initial, mixer := .initial, rumble := .initial
      patternMem := [], motor := 0, gameEvents := .initial }
    let grant (t : State) : State := match s.hold with | .pending m => granted m t | _ => t
    exec .resetRelease s = .next { s with resetPin := false }
    ∧ (s.power = .off → exec .busReset s = .next { s with resetPin := true })
    ∧ (s.power ≠ .off → s.txn = none → s.walk = .none → exec .busReset s = .next (game s))
    ∧ (∀ n d a b, s.walk = .verify n d a b → s.power ≠ .off → s.txn = none →
        exec .busReset s = .next (grant { game s with walk := .none }))
    ∧ (∀ x ∈ s.txn, s.power ≠ .off → walkSound s = true → Txn.isSealing x = true → exec .busReset s = .next (game s))
    ∧ (∀ x ∈ s.txn, s.power ≠ .off → walkSound s = true → Txn.isSealing x = false →
        exec .busReset s = .next (
          let u := { joinPool x.staging (game s) with txn := none, note := .ended .rolledBackReset x.slot, walk := .none }
          if s.walk = .none then u else grant u))

/-! ### What every step keeps -/

/-- The state after reset meets every invariant. (That it is the state after a cell reset and a start-up is the model's
choice: notes/assumptions/1.md.) -/
def Obligations.ResetMeetsTheInvariants : Prop :=
  PagesPartitioned State.reset ∧ StoreSound State.reset ∧ MemoriesSound State.reset ∧ CalendarSound State.reset
    ∧ AlarmsSound State.reset ∧ VoicesSound State.reset ∧ RingSound State.reset ∧ MixerSound State.reset
    ∧ RumbleSound State.reset ∧ EventsSound State.reset ∧ PortsSound State.reset ∧ SupplySound State.reset

/-- Every step keeps each page in exactly one of the pool, one slot's page list and the staging list, and the four memories in
their canonical form and inside their address ranges.
(The canonical form and the unwritten bytes are the model's: notes/assumptions/12.md, 13.md.) -/
def Obligations.PagesAndMemoriesStaySound : Prop :=
  (∀ s s' : State, PagesPartitioned s → step s = .next s' → PagesPartitioned s')
  ∧ (∀ s s' : State, MemoriesSound s → RingSound s → step s = .next s' → MemoriesSound s')

/-- Every step keeps the store's records in agreement: page lists and pool ascending, check bytes below FFh, walk, transaction
and hold as the rules relate them, nothing of the three while OFF. -/
def Obligations.StoreStaysSound : Prop :=
  ∀ s s' : State, PagesPartitioned s → StoreSound s → step s = .next s' → StoreSound s'

/-- Every step keeps the clock a date and time that exist with the weekday of the date, every field of the game-day and setting
records in its range, and every alarm entry in its ranges. -/
def Obligations.CalendarAndAlarmsStaySound : Prop :=
  ∀ s s' : State, CalendarSound s → AlarmsSound s → step s = .next s' → CalendarSound s' ∧ AlarmsSound s'

/-- Every step keeps the voice records in their ranges, a STOPPED voice's sample 0, and voices playing in ACTIVE and paused in
SLEEP only; the ring's positions and fill level in agreement, a waiting stream below 256 bytes, the mixer's ranges, and the DAC
code at 512 whenever the output is disabled or the power state is not ACTIVE. -/
def Obligations.VoicesRingAndMixerStaySound : Prop :=
  (∀ s s' : State, VoicesSound s → step s = .next s' → VoicesSound s')
  ∧ (∀ s s' : State, RingSound s → MixerSound s → step s = .next s' → RingSound s' ∧ MixerSound s')

/-- Every step keeps the rumble level within the battery's cap and 0 outside ACTIVE and while RESTING, counter, limit and rest
in their ranges, and each event queue within eight entries of different kind and detail with counts of 1 to 15. -/
def Obligations.RumbleAndEventsStaySound : Prop :=
  ∀ s s' : State, RumbleSound s → EventsSound s → step s = .next s' → RumbleSound s' ∧ EventsSound s'

/-- Every step keeps the ports' records in their ranges, the port record at its reset values while RESET is asserted, the
main domain's records at their power-up values while OFF, and retention lost while OFF only.
(What the records hold while OFF is the model's: notes/assumptions/7.md, 10.md.) -/
def Obligations.PortsAndSupplyStaySound : Prop :=
  ∀ s s' : State, PortsSound s → SupplySound s → step s = .next s' → PortsSound s' ∧ SupplySound s'
end

