-- ==== Sys2Proof/Laws/State.lean ====
section
/-! SUPPORT. What each named update of State leaves as it was, one lemma for each field, and what it changes. -/

namespace Sys2Proof.Machine

/-! ### Table voice `v` replaced -/

@[simp] theorem setVoice_voices (v : Fin 5) (x : TableVoice) (s : State) :
    (setVoice v x s).voices = s.voices.set v.val x v.isLt := rfl
@[simp] theorem setVoice_pending (v : Fin 5) (x : TableVoice) (s : State) : (setVoice v x s).pending = s.pending := rfl
@[simp] theorem setVoice_power (v : Fin 5) (x : TableVoice) (s : State) : (setVoice v x s).power = s.power := rfl
@[simp] theorem setVoice_battery (v : Fin 5) (x : TableVoice) (s : State) : (setVoice v x s).battery = s.battery := rfl
@[simp] theorem setVoice_retention (v : Fin 5) (x : TableVoice) (s : State) : (setVoice v x s).retention = s.retention := rfl
@[simp] theorem setVoice_wake (v : Fin 5) (x : TableVoice) (s : State) : (setVoice v x s).wake = s.wake := rfl
@[simp] theorem setVoice_resetPin (v : Fin 5) (x : TableVoice) (s : State) : (setVoice v x s).resetPin = s.resetPin := rfl
@[simp] theorem setVoice_pages (v : Fin 5) (x : TableVoice) (s : State) : (setVoice v x s).pages = s.pages := rfl
@[simp] theorem setVoice_slots (v : Fin 5) (x : TableVoice) (s : State) : (setVoice v x s).slots = s.slots := rfl
@[simp] theorem setVoice_pool (v : Fin 5) (x : TableVoice) (s : State) : (setVoice v x s).pool = s.pool := rfl
@[simp] theorem setVoice_note (v : Fin 5) (x : TableVoice) (s : State) : (setVoice v x s).note = s.note := rfl
@[simp] theorem setVoice_walk (v : Fin 5) (x : TableVoice) (s : State) : (setVoice v x s).walk = s.walk := rfl
@[simp] theorem setVoice_txn (v : Fin 5) (x : TableVoice) (s : State) : (setVoice v x s).txn = s.txn := rfl
@[simp] theorem setVoice_hold (v : Fin 5) (x : TableVoice) (s : State) : (setVoice v x s).hold = s.hold := rfl
@[simp] theorem setVoice_crystal (v : Fin 5) (x : TableVoice) (s : State) : (setVoice v x s).crystal = s.crystal := rfl
@[simp] theorem setVoice_calendar (v : Fin 5) (x : TableVoice) (s : State) : (setVoice v x s).calendar = s.calendar := rfl
@[simp] theorem setVoice_clock (v : Fin 5) (x : TableVoice) (s : State) : (setVoice v x s).clock = s.clock := rfl
@[simp] theorem setVoice_gameDay (v : Fin 5) (x : TableVoice) (s : State) : (setVoice v x s).gameDay = s.gameDay := rfl
@[simp] theorem setVoice_setting (v : Fin 5) (x : TableVoice) (s : State) : (setVoice v x s).setting = s.setting := rfl
@[simp] theorem setVoice_alarms (v : Fin 5) (x : TableVoice) (s : State) : (setVoice v x s).alarms = s.alarms := rfl
@[simp] theorem setVoice_port (v : Fin 5) (x : TableVoice) (s : State) : (setVoice v x s).port = s.port := rfl
@[simp] theorem setVoice_busData (v : Fin 5) (x : TableVoice) (s : State) : (setVoice v x s).busData = s.busData := rfl
@[simp] theorem setVoice_side (v : Fin 5) (x : TableVoice) (s : State) : (setVoice v x s).side = s.side := rfl
@[simp] theorem setVoice_voice5 (v : Fin 5) (x : TableVoice) (s : State) : (setVoice v x s).voice5 = s.voice5 := rfl
@[simp] theorem setVoice_waveMem (v : Fin 5) (x : TableVoice) (s : State) : (setVoice v x s).waveMem = s.waveMem := rfl
@[simp] theorem setVoice_layout (v : Fin 5) (x : TableVoice) (s : State) : (setVoice v x s).layout = s.layout := rfl
@[simp] theorem setVoice_ringMem (v : Fin 5) (x : TableVoice) (s : State) : (setVoice v x s).ringMem = s.ringMem := rfl
@[simp] theorem setVoice_ring (v : Fin 5) (x : TableVoice) (s : State) : (setVoice v x s).ring = s.ring := rfl
@[simp] theorem setVoice_mixer (v : Fin 5) (x : TableVoice) (s : State) : (setVoice v x s).mixer = s.mixer := rfl
@[simp] theorem setVoice_rumble (v : Fin 5) (x : TableVoice) (s : State) : (setVoice v x s).rumble = s.rumble := rfl
@[simp] theorem setVoice_patternMem (v : Fin 5) (x : TableVoice) (s : State) : (setVoice v x s).patternMem = s.patternMem := rfl
@[simp] theorem setVoice_motor (v : Fin 5) (x : TableVoice) (s : State) : (setVoice v x s).motor = s.motor := rfl
@[simp] theorem setVoice_motorFrame (v : Fin 5) (x : TableVoice) (s : State) : (setVoice v x s).motorFrame = s.motorFrame := rfl
@[simp] theorem setVoice_gameEvents (v : Fin 5) (x : TableVoice) (s : State) : (setVoice v x s).gameEvents = s.gameEvents := rfl
@[simp] theorem setVoice_systemEvents (v : Fin 5) (x : TableVoice) (s : State) : (setVoice v x s).systemEvents = s.systemEvents := rfl

/-! ### Every table voice changed -/

@[simp] theorem mapVoices_voices (f : Fin 5 → TableVoice → TableVoice) (s : State) :
    (mapVoices f s).voices = Vector.ofFn fun v => f v s.voices[v] := rfl
@[simp] theorem mapVoices_pending (f : Fin 5 → TableVoice → TableVoice) (s : State) : (mapVoices f s).pending = s.pending := rfl
@[simp] theorem mapVoices_power (f : Fin 5 → TableVoice → TableVoice) (s : State) : (mapVoices f s).power = s.power := rfl
@[simp] theorem mapVoices_battery (f : Fin 5 → TableVoice → TableVoice) (s : State) : (mapVoices f s).battery = s.battery := rfl
@[simp] theorem mapVoices_retention (f : Fin 5 → TableVoice → TableVoice) (s : State) : (mapVoices f s).retention = s.retention := rfl
@[simp] theorem mapVoices_wake (f : Fin 5 → TableVoice → TableVoice) (s : State) : (mapVoices f s).wake = s.wake := rfl
@[simp] theorem mapVoices_resetPin (f : Fin 5 → TableVoice → TableVoice) (s : State) : (mapVoices f s).resetPin = s.resetPin := rfl
@[simp] theorem mapVoices_pages (f : Fin 5 → TableVoice → TableVoice) (s : State) : (mapVoices f s).pages = s.pages := rfl
@[simp] theorem mapVoices_slots (f : Fin 5 → TableVoice → TableVoice) (s : State) : (mapVoices f s).slots = s.slots := rfl
@[simp] theorem mapVoices_pool (f : Fin 5 → TableVoice → TableVoice) (s : State) : (mapVoices f s).pool = s.pool := rfl
@[simp] theorem mapVoices_note (f : Fin 5 → TableVoice → TableVoice) (s : State) : (mapVoices f s).note = s.note := rfl
@[simp] theorem mapVoices_walk (f : Fin 5 → TableVoice → TableVoice) (s : State) : (mapVoices f s).walk = s.walk := rfl
@[simp] theorem mapVoices_txn (f : Fin 5 → TableVoice → TableVoice) (s : State) : (mapVoices f s).txn = s.txn := rfl
@[simp] theorem mapVoices_hold (f : Fin 5 → TableVoice → TableVoice) (s : State) : (mapVoices f s).hold = s.hold := rfl
@[simp] theorem mapVoices_crystal (f : Fin 5 → TableVoice → TableVoice) (s : State) : (mapVoices f s).crystal = s.crystal := rfl
@[simp] theorem mapVoices_calendar (f : Fin 5 → TableVoice → TableVoice) (s : State) : (mapVoices f s).calendar = s.calendar := rfl
@[simp] theorem mapVoices_clock (f : Fin 5 → TableVoice → TableVoice) (s : State) : (mapVoices f s).clock = s.clock := rfl
@[simp] theorem mapVoices_gameDay (f : Fin 5 → TableVoice → TableVoice) (s : State) : (mapVoices f s).gameDay = s.gameDay := rfl
@[simp] theorem mapVoices_setting (f : Fin 5 → TableVoice → TableVoice) (s : State) : (mapVoices f s).setting = s.setting := rfl
@[simp] theorem mapVoices_alarms (f : Fin 5 → TableVoice → TableVoice) (s : State) : (mapVoices f s).alarms = s.alarms := rfl
@[simp] theorem mapVoices_port (f : Fin 5 → TableVoice → TableVoice) (s : State) : (mapVoices f s).port = s.port := rfl
@[simp] theorem mapVoices_busData (f : Fin 5 → TableVoice → TableVoice) (s : State) : (mapVoices f s).busData = s.busData := rfl
@[simp] theorem mapVoices_side (f : Fin 5 → TableVoice → TableVoice) (s : State) : (mapVoices f s).side = s.side := rfl
@[simp] theorem mapVoices_voice5 (f : Fin 5 → TableVoice → TableVoice) (s : State) : (mapVoices f s).voice5 = s.voice5 := rfl
@[simp] theorem mapVoices_waveMem (f : Fin 5 → TableVoice → TableVoice) (s : State) : (mapVoices f s).waveMem = s.waveMem := rfl
@[simp] theorem mapVoices_layout (f : Fin 5 → TableVoice → TableVoice) (s : State) : (mapVoices f s).layout = s.layout := rfl
@[simp] theorem mapVoices_ringMem (f : Fin 5 → TableVoice → TableVoice) (s : State) : (mapVoices f s).ringMem = s.ringMem := rfl
@[simp] theorem mapVoices_ring (f : Fin 5 → TableVoice → TableVoice) (s : State) : (mapVoices f s).ring = s.ring := rfl
@[simp] theorem mapVoices_mixer (f : Fin 5 → TableVoice → TableVoice) (s : State) : (mapVoices f s).mixer = s.mixer := rfl
@[simp] theorem mapVoices_rumble (f : Fin 5 → TableVoice → TableVoice) (s : State) : (mapVoices f s).rumble = s.rumble := rfl
@[simp] theorem mapVoices_patternMem (f : Fin 5 → TableVoice → TableVoice) (s : State) : (mapVoices f s).patternMem = s.patternMem := rfl
@[simp] theorem mapVoices_motor (f : Fin 5 → TableVoice → TableVoice) (s : State) : (mapVoices f s).motor = s.motor := rfl
@[simp] theorem mapVoices_motorFrame (f : Fin 5 → TableVoice → TableVoice) (s : State) : (mapVoices f s).motorFrame = s.motorFrame := rfl
@[simp] theorem mapVoices_gameEvents (f : Fin 5 → TableVoice → TableVoice) (s : State) : (mapVoices f s).gameEvents = s.gameEvents := rfl
@[simp] theorem mapVoices_systemEvents (f : Fin 5 → TableVoice → TableVoice) (s : State) : (mapVoices f s).systemEvents = s.systemEvents := rfl

/-! ### Slot record `n` replaced -/

@[simp] theorem setSlot_slots (n : SlotNo) (x : Option SlotData) (s : State) :
    (setSlot n x s).slots = s.slots.set n.val x n.isLt := rfl
@[simp] theorem setSlot_pending (n : SlotNo) (x : Option SlotData) (s : State) : (setSlot n x s).pending = s.pending := rfl
@[simp] theorem setSlot_power (n : SlotNo) (x : Option SlotData) (s : State) : (setSlot n x s).power = s.power := rfl
@[simp] theorem setSlot_battery (n : SlotNo) (x : Option SlotData) (s : State) : (setSlot n x s).battery = s.battery := rfl
@[simp] theorem setSlot_retention (n : SlotNo) (x : Option SlotData) (s : State) : (setSlot n x s).retention = s.retention := rfl
@[simp] theorem setSlot_wake (n : SlotNo) (x : Option SlotData) (s : State) : (setSlot n x s).wake = s.wake := rfl
@[simp] theorem setSlot_resetPin (n : SlotNo) (x : Option SlotData) (s : State) : (setSlot n x s).resetPin = s.resetPin := rfl
@[simp] theorem setSlot_pages (n : SlotNo) (x : Option SlotData) (s : State) : (setSlot n x s).pages = s.pages := rfl
@[simp] theorem setSlot_pool (n : SlotNo) (x : Option SlotData) (s : State) : (setSlot n x s).pool = s.pool := rfl
@[simp] theorem setSlot_note (n : SlotNo) (x : Option SlotData) (s : State) : (setSlot n x s).note = s.note := rfl
@[simp] theorem setSlot_walk (n : SlotNo) (x : Option SlotData) (s : State) : (setSlot n x s).walk = s.walk := rfl
@[simp] theorem setSlot_txn (n : SlotNo) (x : Option SlotData) (s : State) : (setSlot n x s).txn = s.txn := rfl
@[simp] theorem setSlot_hold (n : SlotNo) (x : Option SlotData) (s : State) : (setSlot n x s).hold = s.hold := rfl
@[simp] theorem setSlot_crystal (n : SlotNo) (x : Option SlotData) (s : State) : (setSlot n x s).crystal = s.crystal := rfl
@[simp] theorem setSlot_calendar (n : SlotNo) (x : Option SlotData) (s : State) : (setSlot n x s).calendar = s.calendar := rfl
@[simp] theorem setSlot_clock (n : SlotNo) (x : Option SlotData) (s : State) : (setSlot n x s).clock = s.clock := rfl
@[simp] theorem setSlot_gameDay (n : SlotNo) (x : Option SlotData) (s : State) : (setSlot n x s).gameDay = s.gameDay := rfl
@[simp] theorem setSlot_setting (n : SlotNo) (x : Option SlotData) (s : State) : (setSlot n x s).setting = s.setting := rfl
@[simp] theorem setSlot_alarms (n : SlotNo) (x : Option SlotData) (s : State) : (setSlot n x s).alarms = s.alarms := rfl
@[simp] theorem setSlot_port (n : SlotNo) (x : Option SlotData) (s : State) : (setSlot n x s).port = s.port := rfl
@[simp] theorem setSlot_busData (n : SlotNo) (x : Option SlotData) (s : State) : (setSlot n x s).busData = s.busData := rfl
@[simp] theorem setSlot_side (n : SlotNo) (x : Option SlotData) (s : State) : (setSlot n x s).side = s.side := rfl
@[simp] theorem setSlot_voices (n : SlotNo) (x : Option SlotData) (s : State) : (setSlot n x s).voices = s.voices := rfl
@[simp] theorem setSlot_voice5 (n : SlotNo) (x : Option SlotData) (s : State) : (setSlot n x s).voice5 = s.voice5 := rfl
@[simp] theorem setSlot_waveMem (n : SlotNo) (x : Option SlotData) (s : State) : (setSlot n x s).waveMem = s.waveMem := rfl
@[simp] theorem setSlot_layout (n : SlotNo) (x : Option SlotData) (s : State) : (setSlot n x s).layout = s.layout := rfl
@[simp] theorem setSlot_ringMem (n : SlotNo) (x : Option SlotData) (s : State) : (setSlot n x s).ringMem = s.ringMem := rfl
@[simp] theorem setSlot_ring (n : SlotNo) (x : Option SlotData) (s : State) : (setSlot n x s).ring = s.ring := rfl
@[simp] theorem setSlot_mixer (n : SlotNo) (x : Option SlotData) (s : State) : (setSlot n x s).mixer = s.mixer := rfl
@[simp] theorem setSlot_rumble (n : SlotNo) (x : Option SlotData) (s : State) : (setSlot n x s).rumble = s.rumble := rfl
@[simp] theorem setSlot_patternMem (n : SlotNo) (x : Option SlotData) (s : State) : (setSlot n x s).patternMem = s.patternMem := rfl
@[simp] theorem setSlot_motor (n : SlotNo) (x : Option SlotData) (s : State) : (setSlot n x s).motor = s.motor := rfl
@[simp] theorem setSlot_motorFrame (n : SlotNo) (x : Option SlotData) (s : State) : (setSlot n x s).motorFrame = s.motorFrame := rfl
@[simp] theorem setSlot_gameEvents (n : SlotNo) (x : Option SlotData) (s : State) : (setSlot n x s).gameEvents = s.gameEvents := rfl
@[simp] theorem setSlot_systemEvents (n : SlotNo) (x : Option SlotData) (s : State) : (setSlot n x s).systemEvents = s.systemEvents := rfl

/-! ### Alarm entry `e` replaced -/

@[simp] theorem setAlarm_alarms (e : Fin 8) (x : Option AlarmEntry) (s : State) :
    (setAlarm e x s).alarms = s.alarms.set e.val x e.isLt := rfl
@[simp] theorem setAlarm_pending (e : Fin 8) (x : Option AlarmEntry) (s : State) : (setAlarm e x s).pending = s.pending := rfl
@[simp] theorem setAlarm_power (e : Fin 8) (x : Option AlarmEntry) (s : State) : (setAlarm e x s).power = s.power := rfl
@[simp] theorem setAlarm_battery (e : Fin 8) (x : Option AlarmEntry) (s : State) : (setAlarm e x s).battery = s.battery := rfl
@[simp] theorem setAlarm_retention (e : Fin 8) (x : Option AlarmEntry) (s : State) : (setAlarm e x s).retention = s.retention := rfl
@[simp] theorem setAlarm_wake (e : Fin 8) (x : Option AlarmEntry) (s : State) : (setAlarm e x s).wake = s.wake := rfl
@[simp] theorem setAlarm_resetPin (e : Fin 8) (x : Option AlarmEntry) (s : State) : (setAlarm e x s).resetPin = s.resetPin := rfl
@[simp] theorem setAlarm_pages (e : Fin 8) (x : Option AlarmEntry) (s : State) : (setAlarm e x s).pages = s.pages := rfl
@[simp] theorem setAlarm_slots (e : Fin 8) (x : Option AlarmEntry) (s : State) : (setAlarm e x s).slots = s.slots := rfl
@[simp] theorem setAlarm_pool (e : Fin 8) (x : Option AlarmEntry) (s : State) : (setAlarm e x s).pool = s.pool := rfl
@[simp] theorem setAlarm_note (e : Fin 8) (x : Option AlarmEntry) (s : State) : (setAlarm e x s).note = s.note := rfl
@[simp] theorem setAlarm_walk (e : Fin 8) (x : Option AlarmEntry) (s : State) : (setAlarm e x s).walk = s.walk := rfl
@[simp] theorem setAlarm_txn (e : Fin 8) (x : Option AlarmEntry) (s : State) : (setAlarm e x s).txn = s.txn := rfl
@[simp] theorem setAlarm_hold (e : Fin 8) (x : Option AlarmEntry) (s : State) : (setAlarm e x s).hold = s.hold := rfl
@[simp] theorem setAlarm_crystal (e : Fin 8) (x : Option AlarmEntry) (s : State) : (setAlarm e x s).crystal = s.crystal := rfl
@[simp] theorem setAlarm_calendar (e : Fin 8) (x : Option AlarmEntry) (s : State) : (setAlarm e x s).calendar = s.calendar := rfl
@[simp] theorem setAlarm_clock (e : Fin 8) (x : Option AlarmEntry) (s : State) : (setAlarm e x s).clock = s.clock := rfl
@[simp] theorem setAlarm_gameDay (e : Fin 8) (x : Option AlarmEntry) (s : State) : (setAlarm e x s).gameDay = s.gameDay := rfl
@[simp] theorem setAlarm_setting (e : Fin 8) (x : Option AlarmEntry) (s : State) : (setAlarm e x s).setting = s.setting := rfl
@[simp] theorem setAlarm_port (e : Fin 8) (x : Option AlarmEntry) (s : State) : (setAlarm e x s).port = s.port := rfl
@[simp] theorem setAlarm_busData (e : Fin 8) (x : Option AlarmEntry) (s : State) : (setAlarm e x s).busData = s.busData := rfl
@[simp] theorem setAlarm_side (e : Fin 8) (x : Option AlarmEntry) (s : State) : (setAlarm e x s).side = s.side := rfl
@[simp] theorem setAlarm_voices (e : Fin 8) (x : Option AlarmEntry) (s : State) : (setAlarm e x s).voices = s.voices := rfl
@[simp] theorem setAlarm_voice5 (e : Fin 8) (x : Option AlarmEntry) (s : State) : (setAlarm e x s).voice5 = s.voice5 := rfl
@[simp] theorem setAlarm_waveMem (e : Fin 8) (x : Option AlarmEntry) (s : State) : (setAlarm e x s).waveMem = s.waveMem := rfl
@[simp] theorem setAlarm_layout (e : Fin 8) (x : Option AlarmEntry) (s : State) : (setAlarm e x s).layout = s.layout := rfl
@[simp] theorem setAlarm_ringMem (e : Fin 8) (x : Option AlarmEntry) (s : State) : (setAlarm e x s).ringMem = s.ringMem := rfl
@[simp] theorem setAlarm_ring (e : Fin 8) (x : Option AlarmEntry) (s : State) : (setAlarm e x s).ring = s.ring := rfl
@[simp] theorem setAlarm_mixer (e : Fin 8) (x : Option AlarmEntry) (s : State) : (setAlarm e x s).mixer = s.mixer := rfl
@[simp] theorem setAlarm_rumble (e : Fin 8) (x : Option AlarmEntry) (s : State) : (setAlarm e x s).rumble = s.rumble := rfl
@[simp] theorem setAlarm_patternMem (e : Fin 8) (x : Option AlarmEntry) (s : State) : (setAlarm e x s).patternMem = s.patternMem := rfl
@[simp] theorem setAlarm_motor (e : Fin 8) (x : Option AlarmEntry) (s : State) : (setAlarm e x s).motor = s.motor := rfl
@[simp] theorem setAlarm_motorFrame (e : Fin 8) (x : Option AlarmEntry) (s : State) : (setAlarm e x s).motorFrame = s.motorFrame := rfl
@[simp] theorem setAlarm_gameEvents (e : Fin 8) (x : Option AlarmEntry) (s : State) : (setAlarm e x s).gameEvents = s.gameEvents := rfl
@[simp] theorem setAlarm_systemEvents (e : Fin 8) (x : Option AlarmEntry) (s : State) : (setAlarm e x s).systemEvents = s.systemEvents := rfl

/-! ### An accepted SELECT -/

@[simp] theorem selectTarget_port (t : Target) (c : Nat) (l : Byte) (s : State) :
    (selectTarget t c l s).port = { s.port with target := t, counter := c, latch := l } := rfl
@[simp] theorem selectTarget_pending (t : Target) (c : Nat) (l : Byte) (s : State) : (selectTarget t c l s).pending = s.pending := rfl
@[simp] theorem selectTarget_power (t : Target) (c : Nat) (l : Byte) (s : State) : (selectTarget t c l s).power = s.power := rfl
@[simp] theorem selectTarget_battery (t : Target) (c : Nat) (l : Byte) (s : State) : (selectTarget t c l s).battery = s.battery := rfl
@[simp] theorem selectTarget_retention (t : Target) (c : Nat) (l : Byte) (s : State) : (selectTarget t c l s).retention = s.retention := rfl
@[simp] theorem selectTarget_wake (t : Target) (c : Nat) (l : Byte) (s : State) : (selectTarget t c l s).wake = s.wake := rfl
@[simp] theorem selectTarget_resetPin (t : Target) (c : Nat) (l : Byte) (s : State) : (selectTarget t c l s).resetPin = s.resetPin := rfl
@[simp] theorem selectTarget_pages (t : Target) (c : Nat) (l : Byte) (s : State) : (selectTarget t c l s).pages = s.pages := rfl
@[simp] theorem selectTarget_slots (t : Target) (c : Nat) (l : Byte) (s : State) : (selectTarget t c l s).slots = s.slots := rfl
@[simp] theorem selectTarget_pool (t : Target) (c : Nat) (l : Byte) (s : State) : (selectTarget t c l s).pool = s.pool := rfl
@[simp] theorem selectTarget_note (t : Target) (c : Nat) (l : Byte) (s : State) : (selectTarget t c l s).note = s.note := rfl
@[simp] theorem selectTarget_walk (t : Target) (c : Nat) (l : Byte) (s : State) : (selectTarget t c l s).walk = s.walk := rfl
@[simp] theorem selectTarget_txn (t : Target) (c : Nat) (l : Byte) (s : State) : (selectTarget t c l s).txn = s.txn := rfl
@[simp] theorem selectTarget_hold (t : Target) (c : Nat) (l : Byte) (s : State) : (selectTarget t c l s).hold = s.hold := rfl
@[simp] theorem selectTarget_crystal (t : Target) (c : Nat) (l : Byte) (s : State) : (selectTarget t c l s).crystal = s.crystal := rfl
@[simp] theorem selectTarget_calendar (t : Target) (c : Nat) (l : Byte) (s : State) : (selectTarget t c l s).calendar = s.calendar := rfl
@[simp] theorem selectTarget_clock (t : Target) (c : Nat) (l : Byte) (s : State) : (selectTarget t c l s).clock = s.clock := rfl
@[simp] theorem selectTarget_gameDay (t : Target) (c : Nat) (l : Byte) (s : State) : (selectTarget t c l s).gameDay = s.gameDay := rfl
@[simp] theorem selectTarget_setting (t : Target) (c : Nat) (l : Byte) (s : State) : (selectTarget t c l s).setting = s.setting := rfl
@[simp] theorem selectTarget_alarms (t : Target) (c : Nat) (l : Byte) (s : State) : (selectTarget t c l s).alarms = s.alarms := rfl
@[simp] theorem selectTarget_busData (t : Target) (c : Nat) (l : Byte) (s : State) : (selectTarget t c l s).busData = s.busData := rfl
@[simp] theorem selectTarget_side (t : Target) (c : Nat) (l : Byte) (s : State) : (selectTarget t c l s).side = s.side := rfl
@[simp] theorem selectTarget_voices (t : Target) (c : Nat) (l : Byte) (s : State) : (selectTarget t c l s).voices = s.voices := rfl
@[simp] theorem selectTarget_voice5 (t : Target) (c : Nat) (l : Byte) (s : State) : (selectTarget t c l s).voice5 = s.voice5 := rfl
@[simp] theorem selectTarget_waveMem (t : Target) (c : Nat) (l : Byte) (s : State) : (selectTarget t c l s).waveMem = s.waveMem := rfl
@[simp] theorem selectTarget_layout (t : Target) (c : Nat) (l : Byte) (s : State) : (selectTarget t c l s).layout = s.layout := rfl
@[simp] theorem selectTarget_ringMem (t : Target) (c : Nat) (l : Byte) (s : State) : (selectTarget t c l s).ringMem = s.ringMem := rfl
@[simp] theorem selectTarget_ring (t : Target) (c : Nat) (l : Byte) (s : State) : (selectTarget t c l s).ring = s.ring := rfl
@[simp] theorem selectTarget_mixer (t : Target) (c : Nat) (l : Byte) (s : State) : (selectTarget t c l s).mixer = s.mixer := rfl
@[simp] theorem selectTarget_rumble (t : Target) (c : Nat) (l : Byte) (s : State) : (selectTarget t c l s).rumble = s.rumble := rfl
@[simp] theorem selectTarget_patternMem (t : Target) (c : Nat) (l : Byte) (s : State) : (selectTarget t c l s).patternMem = s.patternMem := rfl
@[simp] theorem selectTarget_motor (t : Target) (c : Nat) (l : Byte) (s : State) : (selectTarget t c l s).motor = s.motor := rfl
@[simp] theorem selectTarget_motorFrame (t : Target) (c : Nat) (l : Byte) (s : State) : (selectTarget t c l s).motorFrame = s.motorFrame := rfl
@[simp] theorem selectTarget_gameEvents (t : Target) (c : Nat) (l : Byte) (s : State) : (selectTarget t c l s).gameEvents = s.gameEvents := rfl
@[simp] theorem selectTarget_systemEvents (t : Target) (c : Nat) (l : Byte) (s : State) : (selectTarget t c l s).systemEvents = s.systemEvents := rfl

/-! ### Pages joining the pool -/

@[simp] theorem joinPool_pool (ps : List Page) (s : State) :
    (joinPool ps s).pool = (List.finRange 64).filter fun p => s.pool.contains p || ps.contains p := rfl
@[simp] theorem joinPool_pending (ps : List Page) (s : State) : (joinPool ps s).pending = s.pending := rfl
@[simp] theorem joinPool_power (ps : List Page) (s : State) : (joinPool ps s).power = s.power := rfl
@[simp] theorem joinPool_battery (ps : List Page) (s : State) : (joinPool ps s).battery = s.battery := rfl
@[simp] theorem joinPool_retention (ps : List Page) (s : State) : (joinPool ps s).retention = s.retention := rfl
@[simp] theorem joinPool_wake (ps : List Page) (s : State) : (joinPool ps s).wake = s.wake := rfl
@[simp] theorem joinPool_resetPin (ps : List Page) (s : State) : (joinPool ps s).resetPin = s.resetPin := rfl
@[simp] theorem joinPool_pages (ps : List Page) (s : State) : (joinPool ps s).pages = s.pages := rfl
@[simp] theorem joinPool_slots (ps : List Page) (s : State) : (joinPool ps s).slots = s.slots := rfl
@[simp] theorem joinPool_note (ps : List Page) (s : State) : (joinPool ps s).note = s.note := rfl
@[simp] theorem joinPool_walk (ps : List Page) (s : State) : (joinPool ps s).walk = s.walk := rfl
@[simp] theorem joinPool_txn (ps : List Page) (s : State) : (joinPool ps s).txn = s.txn := rfl
@[simp] theorem joinPool_hold (ps : List Page) (s : State) : (joinPool ps s).hold = s.hold := rfl
@[simp] theorem joinPool_crystal (ps : List Page) (s : State) : (joinPool ps s).crystal = s.crystal := rfl
@[simp] theorem joinPool_calendar (ps : List Page) (s : State) : (joinPool ps s).calendar = s.calendar := rfl
@[simp] theorem joinPool_clock (ps : List Page) (s : State) : (joinPool ps s).clock = s.clock := rfl
@[simp] theorem joinPool_gameDay (ps : List Page) (s : State) : (joinPool ps s).gameDay = s.gameDay := rfl
@[simp] theorem joinPool_setting (ps : List Page) (s : State) : (joinPool ps s).setting = s.setting := rfl
@[simp] theorem joinPool_alarms (ps : List Page) (s : State) : (joinPool ps s).alarms = s.alarms := rfl
@[simp] theorem joinPool_port (ps : List Page) (s : State) : (joinPool ps s).port = s.port := rfl
@[simp] theorem joinPool_busData (ps : List Page) (s : State) : (joinPool ps s).busData = s.busData := rfl
@[simp] theorem joinPool_side (ps : List Page) (s : State) : (joinPool ps s).side = s.side := rfl
@[simp] theorem joinPool_voices (ps : List Page) (s : State) : (joinPool ps s).voices = s.voices := rfl
@[simp] theorem joinPool_voice5 (ps : List Page) (s : State) : (joinPool ps s).voice5 = s.voice5 := rfl
@[simp] theorem joinPool_waveMem (ps : List Page) (s : State) : (joinPool ps s).waveMem = s.waveMem := rfl
@[simp] theorem joinPool_layout (ps : List Page) (s : State) : (joinPool ps s).layout = s.layout := rfl
@[simp] theorem joinPool_ringMem (ps : List Page) (s : State) : (joinPool ps s).ringMem = s.ringMem := rfl
@[simp] theorem joinPool_ring (ps : List Page) (s : State) : (joinPool ps s).ring = s.ring := rfl
@[simp] theorem joinPool_mixer (ps : List Page) (s : State) : (joinPool ps s).mixer = s.mixer := rfl
@[simp] theorem joinPool_rumble (ps : List Page) (s : State) : (joinPool ps s).rumble = s.rumble := rfl
@[simp] theorem joinPool_patternMem (ps : List Page) (s : State) : (joinPool ps s).patternMem = s.patternMem := rfl
@[simp] theorem joinPool_motor (ps : List Page) (s : State) : (joinPool ps s).motor = s.motor := rfl
@[simp] theorem joinPool_motorFrame (ps : List Page) (s : State) : (joinPool ps s).motorFrame = s.motorFrame := rfl
@[simp] theorem joinPool_gameEvents (ps : List Page) (s : State) : (joinPool ps s).gameEvents = s.gameEvents := rfl
@[simp] theorem joinPool_systemEvents (ps : List Page) (s : State) : (joinPool ps s).systemEvents = s.systemEvents := rfl

/-! ### The clock record set -/

@[simp] theorem setClock_clock (t : DateTime) (s : State) :
    (setClock t s).clock = { now := t, weekday := weekdayOf t.date } := rfl
@[simp] theorem setClock_pending (t : DateTime) (s : State) : (setClock t s).pending = s.pending := rfl
@[simp] theorem setClock_power (t : DateTime) (s : State) : (setClock t s).power = s.power := rfl
@[simp] theorem setClock_battery (t : DateTime) (s : State) : (setClock t s).battery = s.battery := rfl
@[simp] theorem setClock_retention (t : DateTime) (s : State) : (setClock t s).retention = s.retention := rfl
@[simp] theorem setClock_wake (t : DateTime) (s : State) : (setClock t s).wake = s.wake := rfl
@[simp] theorem setClock_resetPin (t : DateTime) (s : State) : (setClock t s).resetPin = s.resetPin := rfl
@[simp] theorem setClock_pages (t : DateTime) (s : State) : (setClock t s).pages = s.pages := rfl
@[simp] theorem setClock_slots (t : DateTime) (s : State) : (setClock t s).slots = s.slots := rfl
@[simp] theorem setClock_pool (t : DateTime) (s : State) : (setClock t s).pool = s.pool := rfl
@[simp] theorem setClock_note (t : DateTime) (s : State) : (setClock t s).note = s.note := rfl
@[simp] theorem setClock_walk (t : DateTime) (s : State) : (setClock t s).walk = s.walk := rfl
@[simp] theorem setClock_txn (t : DateTime) (s : State) : (setClock t s).txn = s.txn := rfl
@[simp] theorem setClock_hold (t : DateTime) (s : State) : (setClock t s).hold = s.hold := rfl
@[simp] theorem setClock_crystal (t : DateTime) (s : State) : (setClock t s).crystal = s.crystal := rfl
@[simp] theorem setClock_calendar (t : DateTime) (s : State) : (setClock t s).calendar = s.calendar := rfl
@[simp] theorem setClock_gameDay (t : DateTime) (s : State) : (setClock t s).gameDay = s.gameDay := rfl
@[simp] theorem setClock_setting (t : DateTime) (s : State) : (setClock t s).setting = s.setting := rfl
@[simp] theorem setClock_alarms (t : DateTime) (s : State) : (setClock t s).alarms = s.alarms := rfl
@[simp] theorem setClock_port (t : DateTime) (s : State) : (setClock t s).port = s.port := rfl
@[simp] theorem setClock_busData (t : DateTime) (s : State) : (setClock t s).busData = s.busData := rfl
@[simp] theorem setClock_side (t : DateTime) (s : State) : (setClock t s).side = s.side := rfl
@[simp] theorem setClock_voices (t : DateTime) (s : State) : (setClock t s).voices = s.voices := rfl
@[simp] theorem setClock_voice5 (t : DateTime) (s : State) : (setClock t s).voice5 = s.voice5 := rfl
@[simp] theorem setClock_waveMem (t : DateTime) (s : State) : (setClock t s).waveMem = s.waveMem := rfl
@[simp] theorem setClock_layout (t : DateTime) (s : State) : (setClock t s).layout = s.layout := rfl
@[simp] theorem setClock_ringMem (t : DateTime) (s : State) : (setClock t s).ringMem = s.ringMem := rfl
@[simp] theorem setClock_ring (t : DateTime) (s : State) : (setClock t s).ring = s.ring := rfl
@[simp] theorem setClock_mixer (t : DateTime) (s : State) : (setClock t s).mixer = s.mixer := rfl
@[simp] theorem setClock_rumble (t : DateTime) (s : State) : (setClock t s).rumble = s.rumble := rfl
@[simp] theorem setClock_patternMem (t : DateTime) (s : State) : (setClock t s).patternMem = s.patternMem := rfl
@[simp] theorem setClock_motor (t : DateTime) (s : State) : (setClock t s).motor = s.motor := rfl
@[simp] theorem setClock_motorFrame (t : DateTime) (s : State) : (setClock t s).motorFrame = s.motorFrame := rfl
@[simp] theorem setClock_gameEvents (t : DateTime) (s : State) : (setClock t s).gameEvents = s.gameEvents := rfl
@[simp] theorem setClock_systemEvents (t : DateTime) (s : State) : (setClock t s).systemEvents = s.systemEvents := rfl

/-! ### The effective level formed -/

@[simp] theorem formLevel_rumble (s : State) :
    (formLevel s).rumble = { s.rumble with level := effectiveLevel s } := rfl
@[simp] theorem formLevel_pending (s : State) : (formLevel s).pending = s.pending := rfl
@[simp] theorem formLevel_power (s : State) : (formLevel s).power = s.power := rfl
@[simp] theorem formLevel_battery (s : State) : (formLevel s).battery = s.battery := rfl
@[simp] theorem formLevel_retention (s : State) : (formLevel s).retention = s.retention := rfl
@[simp] theorem formLevel_wake (s : State) : (formLevel s).wake = s.wake := rfl
@[simp] theorem formLevel_resetPin (s : State) : (formLevel s).resetPin = s.resetPin := rfl
@[simp] theorem formLevel_pages (s : State) : (formLevel s).pages = s.pages := rfl
@[simp] theorem formLevel_slots (s : State) : (formLevel s).slots = s.slots := rfl
@[simp] theorem formLevel_pool (s : State) : (formLevel s).pool = s.pool := rfl
@[simp] theorem formLevel_note (s : State) : (formLevel s).note = s.note := rfl
@[simp] theorem formLevel_walk (s : State) : (formLevel s).walk = s.walk := rfl
@[simp] theorem formLevel_txn (s : State) : (formLevel s).txn = s.txn := rfl
@[simp] theorem formLevel_hold (s : State) : (formLevel s).hold = s.hold := rfl
@[simp] theorem formLevel_crystal (s : State) : (formLevel s).crystal = s.crystal := rfl
@[simp] theorem formLevel_calendar (s : State) : (formLevel s).calendar = s.calendar := rfl
@[simp] theorem formLevel_clock (s : State) : (formLevel s).clock = s.clock := rfl
@[simp] theorem formLevel_gameDay (s : State) : (formLevel s).gameDay = s.gameDay := rfl
@[simp] theorem formLevel_setting (s : State) : (formLevel s).setting = s.setting := rfl
@[simp] theorem formLevel_alarms (s : State) : (formLevel s).alarms = s.alarms := rfl
@[simp] theorem formLevel_port (s : State) : (formLevel s).port = s.port := rfl
@[simp] theorem formLevel_busData (s : State) : (formLevel s).busData = s.busData := rfl
@[simp] theorem formLevel_side (s : State) : (formLevel s).side = s.side := rfl
@[simp] theorem formLevel_voices (s : State) : (formLevel s).voices = s.voices := rfl
@[simp] theorem formLevel_voice5 (s : State) : (formLevel s).voice5 = s.voice5 := rfl
@[simp] theorem formLevel_waveMem (s : State) : (formLevel s).waveMem = s.waveMem := rfl
@[simp] theorem formLevel_layout (s : State) : (formLevel s).layout = s.layout := rfl
@[simp] theorem formLevel_ringMem (s : State) : (formLevel s).ringMem = s.ringMem := rfl
@[simp] theorem formLevel_ring (s : State) : (formLevel s).ring = s.ring := rfl
@[simp] theorem formLevel_mixer (s : State) : (formLevel s).mixer = s.mixer := rfl
@[simp] theorem formLevel_patternMem (s : State) : (formLevel s).patternMem = s.patternMem := rfl
@[simp] theorem formLevel_motor (s : State) : (formLevel s).motor = s.motor := rfl
@[simp] theorem formLevel_motorFrame (s : State) : (formLevel s).motorFrame = s.motorFrame := rfl
@[simp] theorem formLevel_gameEvents (s : State) : (formLevel s).gameEvents = s.gameEvents := rfl
@[simp] theorem formLevel_systemEvents (s : State) : (formLevel s).systemEvents = s.systemEvents := rfl

/-! ### A frame counted -/

@[simp] theorem countFrame_crystal (s : State) :
    (countFrame s).crystal = if s.retention = .lost then s.crystal else (s.crystal + 1) % 32768 := rfl
@[simp] theorem countFrame_motor (s : State) :
    (countFrame s).motor = if s.power ≠ .off ∧ periodEnds s then s.rumble.level else s.motor := rfl
@[simp] theorem countFrame_motorFrame (s : State) :
    (countFrame s).motorFrame = if s.power = .off then s.motorFrame else if periodEnds s then 0 else s.motorFrame + 1 := rfl
@[simp] theorem countFrame_pending (s : State) : (countFrame s).pending = s.pending := rfl
@[simp] theorem countFrame_power (s : State) : (countFrame s).power = s.power := rfl
@[simp] theorem countFrame_battery (s : State) : (countFrame s).battery = s.battery := rfl
@[simp] theorem countFrame_retention (s : State) : (countFrame s).retention = s.retention := rfl
@[simp] theorem countFrame_wake (s : State) : (countFrame s).wake = s.wake := rfl
@[simp] theorem countFrame_resetPin (s : State) : (countFrame s).resetPin = s.resetPin := rfl
@[simp] theorem countFrame_pages (s : State) : (countFrame s).pages = s.pages := rfl
@[simp] theorem countFrame_slots (s : State) : (countFrame s).slots = s.slots := rfl
@[simp] theorem countFrame_pool (s : State) : (countFrame s).pool = s.pool := rfl
@[simp] theorem countFrame_note (s : State) : (countFrame s).note = s.note := rfl
@[simp] theorem countFrame_walk (s : State) : (countFrame s).walk = s.walk := rfl
@[simp] theorem countFrame_txn (s : State) : (countFrame s).txn = s.txn := rfl
@[simp] theorem countFrame_hold (s : State) : (countFrame s).hold = s.hold := rfl
@[simp] theorem countFrame_calendar (s : State) : (countFrame s).calendar = s.calendar := rfl
@[simp] theorem countFrame_clock (s : State) : (countFrame s).clock = s.clock := rfl
@[simp] theorem countFrame_gameDay (s : State) : (countFrame s).gameDay = s.gameDay := rfl
@[simp] theorem countFrame_setting (s : State) : (countFrame s).setting = s.setting := rfl
@[simp] theorem countFrame_alarms (s : State) : (countFrame s).alarms = s.alarms := rfl
@[simp] theorem countFrame_port (s : State) : (countFrame s).port = s.port := rfl
@[simp] theorem countFrame_busData (s : State) : (countFrame s).busData = s.busData := rfl
@[simp] theorem countFrame_side (s : State) : (countFrame s).side = s.side := rfl
@[simp] theorem countFrame_voices (s : State) : (countFrame s).voices = s.voices := rfl
@[simp] theorem countFrame_voice5 (s : State) : (countFrame s).voice5 = s.voice5 := rfl
@[simp] theorem countFrame_waveMem (s : State) : (countFrame s).waveMem = s.waveMem := rfl
@[simp] theorem countFrame_layout (s : State) : (countFrame s).layout = s.layout := rfl
@[simp] theorem countFrame_ringMem (s : State) : (countFrame s).ringMem = s.ringMem := rfl
@[simp] theorem countFrame_ring (s : State) : (countFrame s).ring = s.ring := rfl
@[simp] theorem countFrame_mixer (s : State) : (countFrame s).mixer = s.mixer := rfl
@[simp] theorem countFrame_rumble (s : State) : (countFrame s).rumble = s.rumble := rfl
@[simp] theorem countFrame_patternMem (s : State) : (countFrame s).patternMem = s.patternMem := rfl
@[simp] theorem countFrame_gameEvents (s : State) : (countFrame s).gameEvents = s.gameEvents := rfl
@[simp] theorem countFrame_systemEvents (s : State) : (countFrame s).systemEvents = s.systemEvents := rfl

/-! ### A post to the game queue -/

@[simp] theorem postGame_gameEvents (k : EventKind) (d : Byte) (s : State) :
    (postGame k d s).gameEvents = if s.power = .off then s.gameEvents else s.gameEvents.post k d := by
  unfold postGame; split <;> rfl
@[simp] theorem postGame_pending (k : EventKind) (d : Byte) (s : State) : (postGame k d s).pending = s.pending := by unfold postGame; split <;> rfl
@[simp] theorem postGame_power (k : EventKind) (d : Byte) (s : State) : (postGame k d s).power = s.power := by unfold postGame; split <;> rfl
@[simp] theorem postGame_battery (k : EventKind) (d : Byte) (s : State) : (postGame k d s).battery = s.battery := by unfold postGame; split <;> rfl
@[simp] theorem postGame_retention (k : EventKind) (d : Byte) (s : State) : (postGame k d s).retention = s.retention := by unfold postGame; split <;> rfl
@[simp] theorem postGame_wake (k : EventKind) (d : Byte) (s : State) : (postGame k d s).wake = s.wake := by unfold postGame; split <;> rfl
@[simp] theorem postGame_resetPin (k : EventKind) (d : Byte) (s : State) : (postGame k d s).resetPin = s.resetPin := by unfold postGame; split <;> rfl
@[simp] theorem postGame_pages (k : EventKind) (d : Byte) (s : State) : (postGame k d s).pages = s.pages := by unfold postGame; split <;> rfl
@[simp] theorem postGame_slots (k : EventKind) (d : Byte) (s : State) : (postGame k d s).slots = s.slots := by unfold postGame; split <;> rfl
@[simp] theorem postGame_pool (k : EventKind) (d : Byte) (s : State) : (postGame k d s).pool = s.pool := by unfold postGame; split <;> rfl
@[simp] theorem postGame_note (k : EventKind) (d : Byte) (s : State) : (postGame k d s).note = s.note := by unfold postGame; split <;> rfl
@[simp] theorem postGame_walk (k : EventKind) (d : Byte) (s : State) : (postGame k d s).walk = s.walk := by unfold postGame; split <;> rfl
@[simp] theorem postGame_txn (k : EventKind) (d : Byte) (s : State) : (postGame k d s).txn = s.txn := by unfold postGame; split <;> rfl
@[simp] theorem postGame_hold (k : EventKind) (d : Byte) (s : State) : (postGame k d s).hold = s.hold := by unfold postGame; split <;> rfl
@[simp] theorem postGame_crystal (k : EventKind) (d : Byte) (s : State) : (postGame k d s).crystal = s.crystal := by unfold postGame; split <;> rfl
@[simp] theorem postGame_calendar (k : EventKind) (d : Byte) (s : State) : (postGame k d s).calendar = s.calendar := by unfold postGame; split <;> rfl
@[simp] theorem postGame_clock (k : EventKind) (d : Byte) (s : State) : (postGame k d s).clock = s.clock := by unfold postGame; split <;> rfl
@[simp] theorem postGame_gameDay (k : EventKind) (d : Byte) (s : State) : (postGame k d s).gameDay = s.gameDay := by unfold postGame; split <;> rfl
@[simp] theorem postGame_setting (k : EventKind) (d : Byte) (s : State) : (postGame k d s).setting = s.setting := by unfold postGame; split <;> rfl
@[simp] theorem postGame_alarms (k : EventKind) (d : Byte) (s : State) : (postGame k d s).alarms = s.alarms := by unfold postGame; split <;> rfl
@[simp] theorem postGame_port (k : EventKind) (d : Byte) (s : State) : (postGame k d s).port = s.port := by unfold postGame; split <;> rfl
@[simp] theorem postGame_busData (k : EventKind) (d : Byte) (s : State) : (postGame k d s).busData = s.busData := by unfold postGame; split <;> rfl
@[simp] theorem postGame_side (k : EventKind) (d : Byte) (s : State) : (postGame k d s).side = s.side := by unfold postGame; split <;> rfl
@[simp] theorem postGame_voices (k : EventKind) (d : Byte) (s : State) : (postGame k d s).voices = s.voices := by unfold postGame; split <;> rfl
@[simp] theorem postGame_voice5 (k : EventKind) (d : Byte) (s : State) : (postGame k d s).voice5 = s.voice5 := by unfold postGame; split <;> rfl
@[simp] theorem postGame_waveMem (k : EventKind) (d : Byte) (s : State) : (postGame k d s).waveMem = s.waveMem := by unfold postGame; split <;> rfl
@[simp] theorem postGame_layout (k : EventKind) (d : Byte) (s : State) : (postGame k d s).layout = s.layout := by unfold postGame; split <;> rfl
@[simp] theorem postGame_ringMem (k : EventKind) (d : Byte) (s : State) : (postGame k d s).ringMem = s.ringMem := by unfold postGame; split <;> rfl
@[simp] theorem postGame_ring (k : EventKind) (d : Byte) (s : State) : (postGame k d s).ring = s.ring := by unfold postGame; split <;> rfl
@[simp] theorem postGame_mixer (k : EventKind) (d : Byte) (s : State) : (postGame k d s).mixer = s.mixer := by unfold postGame; split <;> rfl
@[simp] theorem postGame_rumble (k : EventKind) (d : Byte) (s : State) : (postGame k d s).rumble = s.rumble := by unfold postGame; split <;> rfl
@[simp] theorem postGame_patternMem (k : EventKind) (d : Byte) (s : State) : (postGame k d s).patternMem = s.patternMem := by unfold postGame; split <;> rfl
@[simp] theorem postGame_motor (k : EventKind) (d : Byte) (s : State) : (postGame k d s).motor = s.motor := by unfold postGame; split <;> rfl
@[simp] theorem postGame_motorFrame (k : EventKind) (d : Byte) (s : State) : (postGame k d s).motorFrame = s.motorFrame := by unfold postGame; split <;> rfl
@[simp] theorem postGame_systemEvents (k : EventKind) (d : Byte) (s : State) : (postGame k d s).systemEvents = s.systemEvents := by unfold postGame; split <;> rfl

/-! ### A post to the system queue -/

@[simp] theorem postSystem_systemEvents (k : EventKind) (d : Byte) (s : State) :
    (postSystem k d s).systemEvents = if s.power = .off then s.systemEvents else s.systemEvents.post k d := by
  unfold postSystem; split <;> rfl
@[simp] theorem postSystem_pending (k : EventKind) (d : Byte) (s : State) : (postSystem k d s).pending = s.pending := by unfold postSystem; split <;> rfl
@[simp] theorem postSystem_power (k : EventKind) (d : Byte) (s : State) : (postSystem k d s).power = s.power := by unfold postSystem; split <;> rfl
@[simp] theorem postSystem_battery (k : EventKind) (d : Byte) (s : State) : (postSystem k d s).battery = s.battery := by unfold postSystem; split <;> rfl
@[simp] theorem postSystem_retention (k : EventKind) (d : Byte) (s : State) : (postSystem k d s).retention = s.retention := by unfold postSystem; split <;> rfl
@[simp] theorem postSystem_wake (k : EventKind) (d : Byte) (s : State) : (postSystem k d s).wake = s.wake := by unfold postSystem; split <;> rfl
@[simp] theorem postSystem_resetPin (k : EventKind) (d : Byte) (s : State) : (postSystem k d s).resetPin = s.resetPin := by unfold postSystem; split <;> rfl
@[simp] theorem postSystem_pages (k : EventKind) (d : Byte) (s : State) : (postSystem k d s).pages = s.pages := by unfold postSystem; split <;> rfl
@[simp] theorem postSystem_slots (k : EventKind) (d : Byte) (s : State) : (postSystem k d s).slots = s.slots := by unfold postSystem; split <;> rfl
@[simp] theorem postSystem_pool (k : EventKind) (d : Byte) (s : State) : (postSystem k d s).pool = s.pool := by unfold postSystem; split <;> rfl
@[simp] theorem postSystem_note (k : EventKind) (d : Byte) (s : State) : (postSystem k d s).note = s.note := by unfold postSystem; split <;> rfl
@[simp] theorem postSystem_walk (k : EventKind) (d : Byte) (s : State) : (postSystem k d s).walk = s.walk := by unfold postSystem; split <;> rfl
@[simp] theorem postSystem_txn (k : EventKind) (d : Byte) (s : State) : (postSystem k d s).txn = s.txn := by unfold postSystem; split <;> rfl
@[simp] theorem postSystem_hold (k : EventKind) (d : Byte) (s : State) : (postSystem k d s).hold = s.hold := by unfold postSystem; split <;> rfl
@[simp] theorem postSystem_crystal (k : EventKind) (d : Byte) (s : State) : (postSystem k d s).crystal = s.crystal := by unfold postSystem; split <;> rfl
@[simp] theorem postSystem_calendar (k : EventKind) (d : Byte) (s : State) : (postSystem k d s).calendar = s.calendar := by unfold postSystem; split <;> rfl
@[simp] theorem postSystem_clock (k : EventKind) (d : Byte) (s : State) : (postSystem k d s).clock = s.clock := by unfold postSystem; split <;> rfl
@[simp] theorem postSystem_gameDay (k : EventKind) (d : Byte) (s : State) : (postSystem k d s).gameDay = s.gameDay := by unfold postSystem; split <;> rfl
@[simp] theorem postSystem_setting (k : EventKind) (d : Byte) (s : State) : (postSystem k d s).setting = s.setting := by unfold postSystem; split <;> rfl
@[simp] theorem postSystem_alarms (k : EventKind) (d : Byte) (s : State) : (postSystem k d s).alarms = s.alarms := by unfold postSystem; split <;> rfl
@[simp] theorem postSystem_port (k : EventKind) (d : Byte) (s : State) : (postSystem k d s).port = s.port := by unfold postSystem; split <;> rfl
@[simp] theorem postSystem_busData (k : EventKind) (d : Byte) (s : State) : (postSystem k d s).busData = s.busData := by unfold postSystem; split <;> rfl
@[simp] theorem postSystem_side (k : EventKind) (d : Byte) (s : State) : (postSystem k d s).side = s.side := by unfold postSystem; split <;> rfl
@[simp] theorem postSystem_voices (k : EventKind) (d : Byte) (s : State) : (postSystem k d s).voices = s.voices := by unfold postSystem; split <;> rfl
@[simp] theorem postSystem_voice5 (k : EventKind) (d : Byte) (s : State) : (postSystem k d s).voice5 = s.voice5 := by unfold postSystem; split <;> rfl
@[simp] theorem postSystem_waveMem (k : EventKind) (d : Byte) (s : State) : (postSystem k d s).waveMem = s.waveMem := by unfold postSystem; split <;> rfl
@[simp] theorem postSystem_layout (k : EventKind) (d : Byte) (s : State) : (postSystem k d s).layout = s.layout := by unfold postSystem; split <;> rfl
@[simp] theorem postSystem_ringMem (k : EventKind) (d : Byte) (s : State) : (postSystem k d s).ringMem = s.ringMem := by unfold postSystem; split <;> rfl
@[simp] theorem postSystem_ring (k : EventKind) (d : Byte) (s : State) : (postSystem k d s).ring = s.ring := by unfold postSystem; split <;> rfl
@[simp] theorem postSystem_mixer (k : EventKind) (d : Byte) (s : State) : (postSystem k d s).mixer = s.mixer := by unfold postSystem; split <;> rfl
@[simp] theorem postSystem_rumble (k : EventKind) (d : Byte) (s : State) : (postSystem k d s).rumble = s.rumble := by unfold postSystem; split <;> rfl
@[simp] theorem postSystem_patternMem (k : EventKind) (d : Byte) (s : State) : (postSystem k d s).patternMem = s.patternMem := by unfold postSystem; split <;> rfl
@[simp] theorem postSystem_motor (k : EventKind) (d : Byte) (s : State) : (postSystem k d s).motor = s.motor := by unfold postSystem; split <;> rfl
@[simp] theorem postSystem_motorFrame (k : EventKind) (d : Byte) (s : State) : (postSystem k d s).motorFrame = s.motorFrame := by unfold postSystem; split <;> rfl
@[simp] theorem postSystem_gameEvents (k : EventKind) (d : Byte) (s : State) : (postSystem k d s).gameEvents = s.gameEvents := by unfold postSystem; split <;> rfl

end Sys2Proof.Machine
end

