-- ==== Sys2Proof/Laws/Alarms.lean ====
section
/-! SUPPORT. What firing does: one entry's fire, and the fires of several entries at one event. -/

namespace Sys2Proof.Machine

open Sys2Proof.Safety

/-- A start of a pattern writes the rumble record and, for an empty pattern, the game queue, and nothing else. -/
theorem startPattern_eq (p : Fin 4) (n : Nat) (s : State) :
    startPattern p n s = { s with
      rumble := (startPattern p n s).rumble, gameEvents := (startPattern p n s).gameEvents } := by
  unfold startPattern formLevel loadFirst endPattern loadStep postGame
  by_cases h0 : stepDuration s p 0 = 0 <;> by_cases hp : s.power = .off <;> simp [h0, hp]

/-- A fire writes alarm entries, rumble record and queues, and nothing else. -/
theorem fireAlarm_eq (s : State) (e : Fin 8) :
    fireAlarm s e = { s with
      alarms := (fireAlarm s e).alarms, rumble := (fireAlarm s e).rumble
      gameEvents := (fireAlarm s e).gameEvents, systemEvents := (fireAlarm s e).systemEvents } := by
  unfold fireAlarm
  cases he : s.alarms[e] with
  | none => simp
  | some a =>
    have post : postTo a.owner .alarm (BitVec.ofNat 8 e.val) s = { s with
        gameEvents := (postTo a.owner .alarm (BitVec.ofNat 8 e.val) s).gameEvents
        systemEvents := (postTo a.owner .alarm (BitVec.ofNat 8 e.val) s).systemEvents } := by
      cases a.owner <;> by_cases hp : s.power = .off <;>
        first
        | (simp only [postTo, postGame, postSystem, if_pos hp]; done)
        | (simp only [postTo, postGame, postSystem, if_neg hp]; done)
        | (simp only [postTo, postGame, postSystem, if_pos hp]; rfl)
    have act (t : State) : performAction a t = { t with
        rumble := (performAction a t).rumble, gameEvents := (performAction a t).gameEvents } := by
      unfold performAction
      cases a.action with
      | none => rfl
      | some p =>
        by_cases hp : t.power = .active
        · simp only [if_pos hp]
          exact startPattern_eq p 1 t
        · simp only [if_neg hp]
    simp only [setAlarm]
    rw [act, post]

/-- A fire reschedules its own entry and leaves every other (R83 to R85). -/
theorem fireAlarm_alarms (s : State) (e f : Fin 8) :
    (fireAlarm s e).alarms[f] =
      if f = e then s.alarms[e].map (fun a => a.fired s.power s.clock.now s.gameDay.day) else s.alarms[f] := by
  unfold fireAlarm
  cases he : s.alarms[e] with
  | none =>
    by_cases hf : f = e
    · subst hf; simp [he]
    · simp [hf]
  | some a =>
    have post : (postTo a.owner .alarm (BitVec.ofNat 8 e.val) s).alarms = s.alarms := by
      cases a.owner <;> by_cases hp : s.power = .off <;> simp [postTo, postGame, postSystem, hp]
    have act (t : State) : (performAction a t).alarms = t.alarms := by
      unfold performAction
      cases a.action with
      | none => rfl
      | some p =>
        by_cases hp : t.power = .active
        · simp only [hp, if_true]; rw [startPattern_eq]
        · simp [hp]
    simp only [setAlarm, act, post]
    by_cases hf : f = e
    · subst hf; simp
    · have : e.val ≠ f.val := fun h => hf (Fin.ext h.symm)
      simp only [hf, if_false, Fin.getElem_fin]
      rw [Vector.getElem_set_ne (h := this)]

/-- The fires of one event write alarm entries, rumble record and queues, and nothing else. -/
theorem fireAll_eq (es : List (Fin 8)) (s : State) :
    fireAll es s = { s with
      alarms := (fireAll es s).alarms, rumble := (fireAll es s).rumble
      gameEvents := (fireAll es s).gameEvents, systemEvents := (fireAll es s).systemEvents } := by
  induction es generalizing s with
  | nil => rfl
  | cons e es ih =>
    show fireAll es (fireAlarm s e) = _
    refine (ih (fireAlarm s e)).trans ?_
    congr 1 <;> rw [fireAlarm_eq]

/-- The fires of one event reschedule each entry that fires, once, and leave every other. -/
theorem fireAll_alarms (es : List (Fin 8)) (s : State) (h : es.Nodup) (f : Fin 8) :
    (fireAll es s).alarms[f] =
      if f ∈ es then s.alarms[f].map (fun a => a.fired s.power s.clock.now s.gameDay.day) else s.alarms[f] := by
  induction es generalizing s with
  | nil => simp [fireAll]
  | cons e es ih =>
    have hn := List.nodup_cons.1 h
    show (fireAll es (fireAlarm s e)).alarms[f] = _
    rw [ih (fireAlarm s e) hn.2]
    have hp : (fireAlarm s e).power = s.power := by rw [fireAlarm_eq]
    have hc : (fireAlarm s e).clock = s.clock := by rw [fireAlarm_eq]
    have hg : (fireAlarm s e).gameDay = s.gameDay := by rw [fireAlarm_eq]
    rw [fireAlarm_alarms, hp, hc, hg]
    by_cases hf : f = e
    · subst hf; simp [hn.1]
    · by_cases hm : f ∈ es <;> simp [hf, hm]

end Sys2Proof.Machine
end

