-- ==== Sys2Proof/Laws/Events.lean ====
section
/-! SUPPORT. What a post does to an event record, once for all posts, and that it keeps the queue's invariant. -/

namespace Sys2Proof.Machine

/-- A post leaves mask and line enable as they are. -/
@[simp] theorem EventRecord.post_mask (r : EventRecord) (k : EventKind) (d : Byte) : (r.post k d).mask = r.mask := by
  unfold EventRecord.post; split
  · rfl
  · split <;> rfl

@[simp] theorem EventRecord.post_lineEnable (r : EventRecord) (k : EventKind) (d : Byte) :
    (r.post k d).lineEnable = r.lineEnable := by
  unfold EventRecord.post; split
  · rfl
  · split <;> rfl

/-- Everything a post can do (R158): it raises the count of the entry that matches, joins the queue's tail, or
adds its kind to the lost set of a full queue. -/
theorem EventRecord.post_cases (r : EventRecord) (k : EventKind) (d : Byte) :
    ((∃ e ∈ r.queue, e.kind = k ∧ e.detail = d) ∧ r.post k d = { r with queue := coalesce k d r.queue }) ∨
    ((∀ e ∈ r.queue, ¬(e.kind = k ∧ e.detail = d)) ∧ r.queue.length < 8 ∧
      r.post k d = { r with queue := r.queue ++ [{ kind := k, detail := d, count := 1 }] }) ∨
    ((∀ e ∈ r.queue, ¬(e.kind = k ∧ e.detail = d)) ∧ 8 ≤ r.queue.length ∧
      r.post k d = { r with lost := r.lost ||| k.flag }) := by
  unfold EventRecord.post
  split
  · rename_i h
    exact .inl ⟨by simpa using h, rfl⟩
  · rename_i h
    have hn : ∀ e ∈ r.queue, ¬(e.kind = k ∧ e.detail = d) := by simpa using h
    split
    · rename_i hl
      exact .inr (.inl ⟨hn, hl, rfl⟩)
    · rename_i hl
      exact .inr (.inr ⟨hn, Nat.le_of_not_lt hl, rfl⟩)

/-- Coalescing changes no entry's kind or detail. -/
theorem coalesce_keys (k : EventKind) (d : Byte) (q : List EventEntry) :
    (coalesce k d q).map (fun e => (e.kind, e.detail)) = q.map (fun e => (e.kind, e.detail)) := by
  simp only [coalesce, List.map_map]
  refine List.map_congr_left fun e _ => ?_
  simp only [Function.comp_apply]
  split <;> rfl

end Sys2Proof.Machine

namespace Sys2Proof.Safety

open Sys2Proof.Machine

/-- Distinct entries, said of the list of their keys. -/
theorem distinct_iff_keys (q : List EventEntry) :
    q.Pairwise (fun a b => ¬(a.kind = b.kind ∧ a.detail = b.detail)) ↔
      (q.map fun e => (e.kind, e.detail)).Pairwise (· ≠ ·) := by
  simp [List.pairwise_map]

/-- A post keeps a queue's invariant. -/
theorem queueSound_post (r : EventRecord) (k : EventKind) (d : Byte) (h : queueSound r.queue) :
    queueSound (r.post k d).queue := by
  obtain ⟨hl, hp, hc⟩ := h
  rcases r.post_cases k d with ⟨-, he⟩ | ⟨hn, hlt, he⟩ | ⟨-, -, he⟩ <;> rw [he]
  · refine ⟨by simpa [coalesce] using hl, ?_, ?_⟩
    · rw [distinct_iff_keys, coalesce_keys, ← distinct_iff_keys]
      exact hp
    · intro e he
      simp only [coalesce, List.mem_map] at he
      obtain ⟨x, hx, rfl⟩ := he
      have := hc x hx
      split
      · show 1 ≤ min (x.count + 1) 15 ∧ min (x.count + 1) 15 ≤ 15
        omega
      · exact this
  · refine ⟨by simp only [List.length_append, List.length_singleton]; omega, ?_, ?_⟩
    · refine List.pairwise_append.2 ⟨hp, List.pairwise_singleton _ _, fun a ha b hb => ?_⟩
      obtain rfl := List.mem_singleton.1 hb
      exact hn a ha
    · intro e he
      rcases List.mem_append.1 he with he | he
      · exact hc e he
      · obtain rfl := List.mem_singleton.1 he
        exact ⟨Nat.le_refl 1, (by omega : 1 ≤ 15)⟩
  · exact ⟨hl, hp, hc⟩

end Sys2Proof.Safety
end

