-- ==== Sys2Proof/Laws/Ports.lean ====
section
/-! SUPPORT. What a port adds to a command's own effect, once for all commands: the report on the main bus, the reply on the side link. -/

namespace Sys2Proof.Safety

open Sys2Proof.Machine

/-- A report while the main supply is present is what R172 gives. -/
theorem report_eq (r : Bool) (code : Byte) (t : State) (o : OutcomeCode) (h : t.power ≠ .off) :
    report r code (t, o) = reported r code o t := by
  cases r <;> cases o <;> simp [report, reported, noteRefusal, postGame, OutcomeCode.isRefusal, OutcomeCode.code, h]

/-- A main-bus command at a ready port: its own effect, then its report. -/
theorem runBus_ready {s : State} (r : Bool) (code : Byte) (op : State → Result) (h : busReady s)
    (ho : (op s).1.power ≠ .off) : runBus r code op s = reported r code (op s).2 (op s).1 := by
  obtain ⟨hp, hr, hc⟩ := h
  have ha : busAlive s = true := by simp [busAlive, hp, hr]
  have hb : abandonCommand s = s := by simp [abandonCommand, hc]
  rw [runBus, if_pos ha, hb]
  exact report_eq r code _ _ ho

/-- A strobe without the main supply or with RESET asserted is lost (R192, R69). -/
theorem runBus_dead {s : State} (r : Bool) (code : Byte) (op : State → Result) (h : busAlive s = false) :
    runBus r code op s = s := by simp [runBus, h]

/-- A discarded command reports INCOMPLETE in its own form (R170, R172). -/
theorem abandonCommand_pending {s : State} {c : PendingCommand} (hc : s.port.command = some c) (hp : s.power ≠ .off) :
    abandonCommand s
      = reported (commandReporting c.byte) 0x00 .incomplete { s with port.command := none } := by
  simp only [abandonCommand, hc]
  exact (report_eq _ _ _ _ (by exact hp)).trans rfl

/-- A request taken in its frame: its own effect, then its reply. -/
theorem takeLink_eq {s : State} (op : State → LinkResult) (ho : (op s).1.power ≠ .off) :
    takeLink op s = replied (op s).2.1 (op s).2.2 (op s).1 := by
  unfold takeLink replied
  by_cases h : (op s).2.1.isRefusal = true
  · simp [h, postSystem, ho]
  · simp [h]

/-- A request row in a frame that has received nothing. -/
theorem runLink_ready {s : State} (bytes : List Byte) (op : State → LinkResult) (h : linkReady s)
    (ho : (op s).1.power ≠ .off) : runLink bytes op s = replied (op s).2.1 (op s).2.2 (op s).1 := by
  obtain ⟨hp, hf⟩ := h
  rw [runLink, if_neg hp, hf]
  exact takeLink_eq op ho

/-- A request row with SLSEL released is a whole selection: assertion, request, release. -/
theorem runLink_idle {s : State} (bytes : List Byte) (op : State → LinkResult) (hp : s.power ≠ .off)
    (hf : s.side.frame = .idle) : runLink bytes op s = releaseSelect (readOut (takeLink op (assertSelect s))) := by
  rw [runLink, if_neg hp, hf]

/-- Without the main supply a request row does nothing (R190). -/
theorem runLink_off {s : State} (bytes : List Byte) (op : State → LinkResult) (h : s.power = .off) :
    runLink bytes op s = s := by simp [runLink, h]

/-! ### Bits of the side link -/

set_option maxRecDepth 20000 in
/-- A byte's bits, most significant first, are that byte again (R179). -/
theorem byteOfBits_bitsOf (b : Byte) : byteOfBits (bitsOf b) = b := by
  have h : ∀ n : Fin 256, byteOfBits (bitsOf (BitVec.ofFin n)) = BitVec.ofFin n := by decide
  exact h b.toFin

/-- Where the frame stood does not matter once a byte is whole. -/
theorem receiveBytes_frame (bytes : List Byte) (f : SideFrame) (s : State) :
    receiveBytes bytes { s with side.frame := f } = receiveBytes bytes s := by
  unfold receiveBytes; split <;> rfl

/-- Eight bits clocked into a frame between two bytes are its next byte (R179). -/
theorem clockIn_receiving {s : State} {bytes : List Byte} (hp : s.power ≠ .off) (hf : s.side.frame = .receiving bytes [])
    (b : Byte) : clockIn [b] s = receiveBytes (bytes ++ [b]) s := by
  have hb : byteOfBits [b[7], b[6], b[5], b[4], b[3], b[2], b[1], b[0]] = b := by
    simpa [bitsOf, List.range, List.range.loop] using byteOfBits_bitsOf b
  rw [← receiveBytes_frame _ (.receiving bytes [b[7], b[6], b[5], b[4], b[3], b[2], b[1]])]
  simp [clockIn, clockBits, bitsOf, List.range, List.range.loop, clockBit, hp, hf, hb]

/-- Bits clocked after the taking are ignored, and as many of the reply are sampled (R179). -/
theorem clockBits_taken (bits : List Bool) {s : State} {reply : List Byte} (hp : s.power ≠ .off)
    (hf : s.side.frame = .taken reply) : clockBits bits s = { s with
      side.sampled := s.side.sampled ++ (List.range bits.length).map fun i => replyBit reply (s.side.sampled.length + i) } := by
  induction bits generalizing s with
  | nil => simp [clockBits]
  | cons b rest ih =>
    have h1 : clockBit s b = { s with side.sampled := s.side.sampled ++ [replyBit reply s.side.sampled.length] } := by
      simp [clockBit, hp, hf]
    have h2 : clockBits (b :: rest) s = clockBits rest (clockBit s b) := rfl
    rw [h2, h1, ih (by exact hp) (by exact hf)]
    simp [List.range_succ_eq_map, Function.comp_def, Nat.add_assoc, Nat.add_comm 1]

/-- SLD is released at the release of SLSEL (R179). -/
@[simp] theorem drivenSld_releaseSelect (s : State) : drivenSld (releaseSelect s).side = none := rfl

end Sys2Proof.Safety
end

