-- ==== Sys2Proof/Laws/Frames.lean ====
section
/-! SUPPORT. Every operation leaves the queue of waiting commands as it is, and every one but the supply's and POWER MODE the power state. -/

namespace Sys2Proof.Machine

/-! ### The queue of waiting commands -/

@[simp] theorem postBoth_pending (k : EventKind) (d : Byte) (s : State) : (postBoth k d s).pending = s.pending := by
  simp only [postBoth]
  repeat' split
  all_goals first | rfl | simp | simp_all

@[simp] theorem postTo_pending (m : Master) (k : EventKind) (d : Byte) (s : State) : (postTo m k d s).pending = s.pending := by
  simp only [postTo]
  repeat' split
  all_goals first | rfl | simp | simp_all

@[simp] theorem noteRefusal_pending (o : OutcomeCode) (s : State) : (noteRefusal o s).pending = s.pending := by
  simp only [noteRefusal]
  repeat' split
  all_goals first | rfl | simp | simp_all

@[simp] theorem refuseAccess_pending (o : OutcomeCode) (s : State) : (refuseAccess o s).pending = s.pending := by
  simp only [refuseAccess]
  repeat' split
  all_goals first | rfl | simp | simp_all

@[simp] theorem refuseRead_pending (o : OutcomeCode) (s : State) : (refuseRead o s).pending = s.pending := by
  simp only [refuseRead]
  repeat' split
  all_goals first | rfl | simp | simp_all

@[simp] theorem stepVoice_pending (v : Fin 5) (s : State) : (stepVoice v s).pending = s.pending := by
  simp only [stepVoice]
  repeat' split
  all_goals first | rfl | simp | simp_all

@[simp] theorem voiceExpiry_pending (v : Fin 5) (s : State) : (voiceExpiry v s).pending = s.pending := by
  simp only [voiceExpiry]
  repeat' split
  all_goals first | rfl | simp | simp_all

@[simp] theorem setEnvelope_pending (v : Fin 6) (e : Envelope) (s : State) : (setEnvelope v e s).pending = s.pending := by
  simp only [setEnvelope]
  repeat' split
  all_goals first | rfl | simp | simp_all

@[simp] theorem stopAtZero_pending (v : Fin 5) (s : State) : (stopAtZero v s).pending = s.pending := by
  simp only [stopAtZero]
  repeat' split
  all_goals first | rfl | simp | simp_all

@[simp] theorem moveEnvelope_pending (v : Fin 6) (s : State) : (moveEnvelope v s).pending = s.pending := by
  simp only [moveEnvelope]
  repeat' split
  all_goals first | rfl | simp | simp_all

@[simp] theorem envelopeFrame_pending (v : Fin 6) (s : State) : (envelopeFrame v s).pending = s.pending := by
  simp only [envelopeFrame]
  repeat' split
  all_goals first | rfl | simp | simp_all

@[simp] theorem envelopeExpiry_pending (v : Fin 6) (s : State) : (envelopeExpiry v s).pending = s.pending := by
  simp only [envelopeExpiry]
  repeat' split
  all_goals first | rfl | simp | simp_all

@[simp] theorem voiceSetOp_pending (a b c d e : Byte) (s : State) : (voiceSetOp a b c d e s).1.pending = s.pending := by
  simp only [voiceSetOp, refuse]
  repeat' split
  all_goals first | rfl | simp | simp_all

@[simp] theorem startVoices_pending (m : Byte) (s : State) : (startVoices m s).pending = s.pending := by
  simp only [startVoices]
  repeat' split
  all_goals first | rfl | simp | simp_all

@[simp] theorem stopVoices_pending (m : Byte) (s : State) : (stopVoices m s).pending = s.pending := by
  simp only [stopVoices]
  repeat' split
  all_goals first | rfl | simp | simp_all

@[simp] theorem voicePitchOp_pending (v : Byte) (d : Half) (t : Byte) (s : State) : (voicePitchOp v d t s).1.pending = s.pending := by
  simp only [voicePitchOp, refuse]
  repeat' split
  all_goals first | rfl | simp | simp_all

@[simp] theorem voiceLevelOp_pending (a b c d : Byte) (s : State) : (voiceLevelOp a b c d s).1.pending = s.pending := by
  simp only [voiceLevelOp, refuse]
  repeat' split
  all_goals first | rfl | simp | simp_all

@[simp] theorem waveLayoutOp_pending (l : Byte) (s : State) : (waveLayoutOp l s).1.pending = s.pending := by
  simp only [waveLayoutOp, refuse]
  repeat' split
  all_goals first | rfl | simp | simp_all

@[simp] theorem pauseVoices_pending (s : State) : (pauseVoices s).pending = s.pending := by
  simp only [pauseVoices]
  repeat' split
  all_goals first | rfl | simp | simp_all

@[simp] theorem resumeVoices_pending (s : State) : (resumeVoices s).pending = s.pending := by
  simp only [resumeVoices]
  repeat' split
  all_goals first | rfl | simp | simp_all

@[simp] theorem silenceVoices_pending (s : State) : (silenceVoices s).pending = s.pending := by
  simp only [silenceVoices]
  repeat' split
  all_goals first | rfl | simp | simp_all

@[simp] theorem resetVoices_pending (s : State) : (resetVoices s).pending = s.pending := by
  simp only [resetVoices]
  repeat' split
  all_goals first | rfl | simp | simp_all

@[simp] theorem ringWrite_pending (b : Byte) (s : State) : (ringWrite b s).pending = s.pending := by
  simp only [ringWrite]
  repeat' split
  all_goals first | rfl | simp | simp_all

@[simp] theorem streamStep_pending (s : State) : (streamStep s).pending = s.pending := by
  simp only [streamStep]
  repeat' split
  all_goals first | rfl | simp | simp_all

@[simp] theorem streamExpiry_pending (s : State) : (streamExpiry s).pending = s.pending := by
  simp only [streamExpiry]
  repeat' split
  all_goals first | rfl | simp | simp_all

@[simp] theorem startStream_pending (s : State) : (startStream s).pending = s.pending := by
  simp only [startStream]
  repeat' split
  all_goals first | rfl | simp | simp_all

@[simp] theorem stopStream_pending (s : State) : (stopStream s).pending = s.pending := by
  simp only [stopStream]
  repeat' split
  all_goals first | rfl | simp | simp_all

@[simp] theorem voiceStartOp_pending (m : Byte) (s : State) : (voiceStartOp m s).1.pending = s.pending := by
  simp only [voiceStartOp]
  repeat' split
  all_goals first | rfl | simp | simp_all

@[simp] theorem voiceStopOp_pending (m : Byte) (s : State) : (voiceStopOp m s).1.pending = s.pending := by
  simp only [voiceStopOp]
  repeat' split
  all_goals first | rfl | simp | simp_all

@[simp] theorem ringFlushOp_pending (s : State) : (ringFlushOp s).1.pending = s.pending := by
  simp only [ringFlushOp]
  repeat' split
  all_goals first | rfl | simp | simp_all

@[simp] theorem ringSetOp_pending (m : Byte) (s : State) : (ringSetOp m s).1.pending = s.pending := by
  simp only [ringSetOp]
  repeat' split
  all_goals first | rfl | simp | simp_all

@[simp] theorem silenceStream_pending (s : State) : (silenceStream s).pending = s.pending := by
  simp only [silenceStream]
  repeat' split
  all_goals first | rfl | simp | simp_all

@[simp] theorem pauseStream_pending (s : State) : (pauseStream s).pending = s.pending := by
  simp only [pauseStream]
  repeat' split
  all_goals first | rfl | simp | simp_all

@[simp] theorem resumeStream_pending (s : State) : (resumeStream s).pending = s.pending := by
  simp only [resumeStream]
  repeat' split
  all_goals first | rfl | simp | simp_all

@[simp] theorem resetRing_pending (s : State) : (resetRing s).pending = s.pending := by
  simp only [resetRing]
  repeat' split
  all_goals first | rfl | simp | simp_all

@[simp] theorem streamClock_pending (s : State) : (streamClock s).pending = s.pending := by
  simp only [streamClock]
  repeat' split
  all_goals first | rfl | simp | simp_all

@[simp] theorem mixFrame_pending (s : State) : (mixFrame s).pending = s.pending := by
  simp only [mixFrame]
  repeat' split
  all_goals first | rfl | simp | simp_all

@[simp] theorem mixSetOp_pending (a b c : Byte) (s : State) : (mixSetOp a b c s).1.pending = s.pending := by
  simp only [mixSetOp, refuse]
  repeat' split
  all_goals first | rfl | simp | simp_all

@[simp] theorem clipClearOp_pending (s : State) : (clipClearOp s).1.pending = s.pending := by
  simp only [clipClearOp]
  repeat' split
  all_goals first | rfl | simp | simp_all

@[simp] theorem holdDac_pending (s : State) : (holdDac s).pending = s.pending := by
  simp only [holdDac]
  repeat' split
  all_goals first | rfl | simp | simp_all

@[simp] theorem resetMixer_pending (s : State) : (resetMixer s).pending = s.pending := by
  simp only [resetMixer]
  repeat' split
  all_goals first | rfl | simp | simp_all

@[simp] theorem loadStep_pending (p : Fin 4) (n k : Nat) (s : State) : (loadStep p n k s).pending = s.pending := by
  simp only [loadStep]
  repeat' split
  all_goals first | rfl | simp | simp_all

@[simp] theorem endPattern_pending (p : Fin 4) (s : State) : (endPattern p s).pending = s.pending := by
  simp only [endPattern]
  repeat' split
  all_goals first | rfl | simp | simp_all

@[simp] theorem loadFirst_pending (p : Fin 4) (n : Nat) (s : State) : (loadFirst p n s).pending = s.pending := by
  simp only [loadFirst]
  repeat' split
  all_goals first | rfl | simp | simp_all

@[simp] theorem startPattern_pending (p : Fin 4) (n : Nat) (s : State) : (startPattern p n s).pending = s.pending := by
  simp only [startPattern]
  repeat' split
  all_goals first | rfl | simp | simp_all

@[simp] theorem nextStep_pending (p : Fin 4) (n k : Nat) (s : State) : (nextStep p n k s).pending = s.pending := by
  simp only [nextStep]
  repeat' split
  all_goals first | rfl | simp | simp_all

@[simp] theorem sequencePattern_pending (s : State) : (sequencePattern s).pending = s.pending := by
  simp only [sequencePattern]
  repeat' split
  all_goals first | rfl | simp | simp_all

@[simp] theorem beginRest_pending (c : Nat) (s : State) : (beginRest c s).pending = s.pending := by
  simp only [beginRest]
  repeat' split
  all_goals first | rfl | simp | simp_all

@[simp] theorem endRest_pending (s : State) : (endRest s).pending = s.pending := by
  simp only [endRest]
  repeat' split
  all_goals first | rfl | simp | simp_all

@[simp] theorem runAccounting_pending (s : State) : (runAccounting s).pending = s.pending := by
  simp only [runAccounting]
  repeat' split
  all_goals first | rfl | simp | simp_all

@[simp] theorem tickOp_pending (s : State) : (tickOp s).pending = s.pending := by
  simp only [tickOp]
  repeat' split
  all_goals first | rfl | simp | simp_all

@[simp] theorem patternStepEndOp_pending (s : State) : (patternStepEndOp s).pending = s.pending := by
  simp only [patternStepEndOp]
  repeat' split
  all_goals first | rfl | simp | simp_all

@[simp] theorem restBeginOp_pending (s : State) : (restBeginOp s).pending = s.pending := by
  simp only [restBeginOp]
  repeat' split
  all_goals first | rfl | simp | simp_all

@[simp] theorem restEndOp_pending (s : State) : (restEndOp s).pending = s.pending := by
  simp only [restEndOp]
  repeat' split
  all_goals first | rfl | simp | simp_all

@[simp] theorem motorPeriodOp_pending (s : State) : (motorPeriodOp s).pending = s.pending := by
  simp only [motorPeriodOp]
  repeat' split
  all_goals first | rfl | simp | simp_all

@[simp] theorem rumbleDirectOp_pending (l : Byte) (s : State) : (rumbleDirectOp l s).1.pending = s.pending := by
  simp only [rumbleDirectOp]
  repeat' split
  all_goals first | rfl | simp | simp_all

@[simp] theorem rumbleStopOp_pending (s : State) : (rumbleStopOp s).1.pending = s.pending := by
  simp only [rumbleStopOp]
  repeat' split
  all_goals first | rfl | simp | simp_all

@[simp] theorem rumbleLinkOp_pending (v : Byte) (s : State) : (rumbleLinkOp v s).1.pending = s.pending := by
  simp only [rumbleLinkOp, refuseRumble, refuse]
  repeat' split
  all_goals first | rfl | simp | simp_all

@[simp] theorem rumblePatternOp_pending (p n : Byte) (s : State) : (rumblePatternOp p n s).1.pending = s.pending := by
  simp only [rumblePatternOp, refuseRumble, refuse]
  repeat' split
  all_goals first | rfl | simp | simp_all

@[simp] theorem rumbleLimitOp_pending (l : Byte) (s : State) : (rumbleLimitOp l s).1.pending = s.pending := by
  simp only [rumbleLimitOp]
  repeat' split
  all_goals first | rfl | simp | simp_all

@[simp] theorem silenceRumble_pending (s : State) : (silenceRumble s).pending = s.pending := by
  simp only [silenceRumble]
  repeat' split
  all_goals first | rfl | simp | simp_all

@[simp] theorem resetRumble_pending (s : State) : (resetRumble s).pending = s.pending := by
  simp only [resetRumble]
  repeat' split
  all_goals first | rfl | simp | simp_all

@[simp] theorem performAction_pending (a : AlarmEntry) (s : State) : (performAction a s).pending = s.pending := by
  simp only [performAction]
  repeat' split
  all_goals first | rfl | simp | simp_all

@[simp] theorem alarmDisarmOp_pending (m : Master) (e : Byte) (s : State) : (alarmDisarmOp m e s).1.pending = s.pending := by
  simp only [alarmDisarmOp, refuse]
  repeat' split
  all_goals first | rfl | simp | simp_all

@[simp] theorem freeAlarms_pending (s : State) : (freeAlarms s).pending = s.pending := by
  simp only [freeAlarms]
  repeat' split
  all_goals first | rfl | simp | simp_all

@[simp] theorem clearMissed_pending (s : State) : (clearMissed s).pending = s.pending := by
  simp only [clearMissed]
  repeat' split
  all_goals first | rfl | simp | simp_all

@[simp] theorem dayStartOp_pending (h m : Byte) (s : State) : (dayStartOp h m s).1.pending = s.pending := by
  simp only [dayStartOp, refuse]
  repeat' split
  all_goals first | rfl | simp | simp_all

@[simp] theorem catchUpLimitOp_pending (l : Half) (s : State) : (catchUpLimitOp l s).1.pending = s.pending := by
  simp only [catchUpLimitOp]
  repeat' split
  all_goals first | rfl | simp | simp_all

@[simp] theorem rebaseOp_pending (d : Half) (s : State) : (rebaseOp d s).1.pending = s.pending := by
  simp only [rebaseOp]
  repeat' split
  all_goals first | rfl | simp | simp_all

@[simp] theorem sameSetting_pending (s : State) : (sameSetting s).pending = s.pending := by
  simp only [sameSetting]
  repeat' split
  all_goals first | rfl | simp | simp_all

@[simp] theorem backwardSetting_pending (t : DateTime) (s : State) : (backwardSetting t s).pending = s.pending := by
  simp only [backwardSetting]
  repeat' split
  all_goals first | rfl | simp | simp_all

@[simp] theorem resetCalendar_pending (s : State) : (resetCalendar s).pending = s.pending := by
  simp only [resetCalendar]
  repeat' split
  all_goals first | rfl | simp | simp_all

@[simp] theorem grantHold_pending (m : HoldMode) (s : State) : (grantHold m s).pending = s.pending := by
  simp only [grantHold]
  repeat' split
  all_goals first | rfl | simp | simp_all

@[simp] theorem grantPending_pending (s : State) : (grantPending s).pending = s.pending := by
  simp only [grantPending]
  repeat' split
  all_goals first | rfl | simp | simp_all

@[simp] theorem rollBack_pending (k : EndKind) (s : State) : (rollBack k s).pending = s.pending := by
  simp only [rollBack]
  repeat' split
  all_goals first | rfl | simp | simp_all

@[simp] theorem rollBackWithFail_pending (k : EndKind) (s : State) : (rollBackWithFail k s).pending = s.pending := by
  simp only [rollBackWithFail]
  repeat' split
  all_goals first | rfl | simp | simp_all

@[simp] theorem fillComplete_pending (t : Txn) (s : State) : (fillComplete t s).pending = s.pending := by
  simp only [fillComplete]
  repeat' split
  all_goals first | rfl | simp | simp_all

@[simp] theorem switchSlot_pending (t : Txn) (ab : Nat × Nat) (s : State) : (switchSlot t ab s).pending = s.pending := by
  simp only [switchSlot]
  repeat' split
  all_goals first | rfl | simp | simp_all

@[simp] theorem verifyComplete_pending (n : SlotNo) (ab : Nat × Nat) (s : State) : (verifyComplete n ab s).pending = s.pending := by
  simp only [verifyComplete]
  repeat' split
  all_goals first | rfl | simp | simp_all

@[simp] theorem fillWalkPage_pending (n : SlotNo) (d : Nat) (s : State) : (fillWalkPage n d s).pending = s.pending := by
  simp only [fillWalkPage]
  repeat' split
  all_goals first | rfl | simp | simp_all

@[simp] theorem checkWalkPage_pending (n : SlotNo) (d a b : Nat) (s : State) : (checkWalkPage n d a b s).pending = s.pending := by
  simp only [checkWalkPage]
  repeat' split
  all_goals first | rfl | simp | simp_all

@[simp] theorem verifyWalkPage_pending (n : SlotNo) (d a b : Nat) (s : State) : (verifyWalkPage n d a b s).pending = s.pending := by
  simp only [verifyWalkPage]
  repeat' split
  all_goals first | rfl | simp | simp_all

@[simp] theorem walkPageOp_pending (s : State) : (walkPageOp s).pending = s.pending := by
  simp only [walkPageOp]
  repeat' split
  all_goals first | rfl | simp | simp_all

@[simp] theorem openTransaction_pending (n : SlotNo) (z : Nat) (m : FillMode) (s : State) : (openTransaction n z m s).pending = s.pending := by
  simp only [openTransaction]
  repeat' split
  all_goals first | rfl | simp | simp_all

@[simp] theorem openOp_pending (n z m : Byte) (s : State) : (openOp n z m s).1.pending = s.pending := by
  simp only [openOp, refuse]
  repeat' split
  all_goals first | rfl | simp | simp_all

@[simp] theorem commitOp_pending (s : State) : (commitOp s).1.pending = s.pending := by
  simp only [commitOp, refuse]
  repeat' split
  all_goals first | rfl | simp | simp_all

@[simp] theorem abortOp_pending (s : State) : (abortOp s).1.pending = s.pending := by
  simp only [abortOp, refuse]
  repeat' split
  all_goals first | rfl | simp | simp_all

@[simp] theorem eraseOp_pending (n : Byte) (s : State) : (eraseOp n s).1.pending = s.pending := by
  simp only [eraseOp, refuse]
  repeat' split
  all_goals first | rfl | simp | simp_all

@[simp] theorem verifyOp_pending (n : Byte) (s : State) : (verifyOp n s).1.pending = s.pending := by
  simp only [verifyOp, refuse]
  repeat' split
  all_goals first | rfl | simp | simp_all

@[simp] theorem newHold_pending (m : HoldMode) (s : State) : (newHold m s).1.pending = s.pending := by
  simp only [newHold]
  repeat' split
  all_goals first | rfl | simp | simp_all

@[simp] theorem upgradeHold_pending (s : State) : (upgradeHold s).1.pending = s.pending := by
  simp only [upgradeHold]
  repeat' split
  all_goals first | rfl | simp | simp_all

@[simp] theorem holdOp_pending (m : Byte) (s : State) : (holdOp m s).1.pending = s.pending := by
  simp only [holdOp, refuse]
  repeat' split
  all_goals first | rfl | simp | simp_all

@[simp] theorem releaseOp_pending (s : State) : (releaseOp s).1.pending = s.pending := by
  simp only [releaseOp]
  repeat' split
  all_goals first | rfl | simp | simp_all

@[simp] theorem slotReadOp_pending (n : Byte) (o : Half) (c : Byte) (s : State) : (slotReadOp n o c s).1.pending = s.pending := by
  simp only [slotReadOp]
  repeat' split
  all_goals first | rfl | simp | simp_all

@[simp] theorem resetStore_pending (s : State) : (resetStore s).pending = s.pending := by
  simp only [resetStore]
  repeat' split
  all_goals first | rfl | simp | simp_all

@[simp] theorem busResetStore_pending (s : State) : (busResetStore s).pending = s.pending := by
  simp only [busResetStore]
  repeat' split
  all_goals first | rfl | simp | simp_all

@[simp] theorem supplyFallStore_pending (s : State) : (supplyFallStore s).pending = s.pending := by
  simp only [supplyFallStore]
  repeat' split
  all_goals first | rfl | simp | simp_all

@[simp] theorem readRecordOp_pending (r x : Byte) (s : State) : (readRecordOp r x s).1.pending = s.pending := by
  simp only [readRecordOp]
  repeat' split
  all_goals first | rfl | simp | simp_all

@[simp] theorem selectSlot_pending (x : Byte) (a : Nat) (s : State) : (selectSlot x a s).1.pending = s.pending := by
  simp only [selectSlot, refuse]
  repeat' split
  all_goals first | rfl | simp | simp_all

@[simp] theorem selectStage_pending (a : Nat) (s : State) : (selectStage a s).1.pending = s.pending := by
  simp only [selectStage, refuse]
  repeat' split
  all_goals first | rfl | simp | simp_all

@[simp] theorem selectInfo_pending (x : Byte) (a : Half) (s : State) : (selectInfo x a s).1.pending = s.pending := by
  simp only [selectInfo, refuse]
  repeat' split
  all_goals first | rfl | simp | simp_all

@[simp] theorem selectOp_pending (t x : Byte) (a : Half) (s : State) : (selectOp t x a s).1.pending = s.pending := by
  simp only [selectOp, refuse]
  repeat' split
  all_goals first | rfl | simp | simp_all

@[simp] theorem entryOp_pending (d : Byte) (s : State) : (entryOp d s).1.pending = s.pending := by
  simp only [entryOp, refuse]
  repeat' split
  all_goals first | rfl | simp | simp_all

@[simp] theorem statusClearOp_pending (s : State) : (statusClearOp s).1.pending = s.pending := by
  simp only [statusClearOp]
  repeat' split
  all_goals first | rfl | simp | simp_all

@[simp] theorem advanceCounter_pending (n : Nat) (s : State) : (advanceCounter n s).pending = s.pending := by
  simp only [advanceCounter]
  repeat' split
  all_goals first | rfl | simp | simp_all

@[simp] theorem stageWrite_pending (b : Byte) (s : State) : (stageWrite b s).pending = s.pending := by
  simp only [stageWrite]
  repeat' split
  all_goals first | rfl | simp | simp_all

@[simp] theorem targetWrite_pending (b : Byte) (s : State) : (targetWrite b s).pending = s.pending := by
  simp only [targetWrite]
  repeat' split
  all_goals first | rfl | simp | simp_all

@[simp] theorem latchRead_pending (n : Nat) (l : Nat → Byte) (s : State) : (latchRead n l s).pending = s.pending := by
  simp only [latchRead]
  repeat' split
  all_goals first | rfl | simp | simp_all

@[simp] theorem slotPortRead_pending (n : SlotNo) (s : State) : (slotPortRead n s).pending = s.pending := by
  simp only [slotPortRead]
  repeat' split
  all_goals first | rfl | simp | simp_all

@[simp] theorem stageRead_pending (s : State) : (stageRead s).pending = s.pending := by
  simp only [stageRead]
  repeat' split
  all_goals first | rfl | simp | simp_all

@[simp] theorem targetRead_pending (s : State) : (targetRead s).pending = s.pending := by
  simp only [targetRead]
  repeat' split
  all_goals first | rfl | simp | simp_all

@[simp] theorem modifyEvents_pending (m : Master) (f : EventRecord → EventRecord) (s : State) : (modifyEvents m f s).pending = s.pending := by
  simp only [modifyEvents]
  repeat' split
  all_goals first | rfl | simp | simp_all

@[simp] theorem eventAckOp_pending (m : Master) (s : State) : (eventAckOp m s).1.pending = s.pending := by
  simp only [eventAckOp]
  repeat' split
  all_goals first | rfl | simp | simp_all

@[simp] theorem eventAckLostOp_pending (m : Master) (s : State) : (eventAckLostOp m s).1.pending = s.pending := by
  simp only [eventAckLostOp]
  repeat' split
  all_goals first | rfl | simp | simp_all

@[simp] theorem eventMaskOp_pending (m : Master) (a b c : Byte) (s : State) : (eventMaskOp m a b c s).1.pending = s.pending := by
  simp only [eventMaskOp]
  repeat' split
  all_goals first | rfl | simp | simp_all

@[simp] theorem lineEnableOp_pending (m : Master) (e : Byte) (s : State) : (lineEnableOp m e s).1.pending = s.pending := by
  simp only [lineEnableOp, refuse]
  repeat' split
  all_goals first | rfl | simp | simp_all

@[simp] theorem changeBattery_pending (b : BatteryState) (s : State) : (changeBattery b s).pending = s.pending := by
  simp only [changeBattery]
  repeat' split
  all_goals first | rfl | simp | simp_all

@[simp] theorem batteryOp_pending (b : Byte) (s : State) : (batteryOp b s).1.pending = s.pending := by
  simp only [batteryOp, refuse]
  repeat' split
  all_goals first | rfl | simp | simp_all

@[simp] theorem silenceOp_pending (s : State) : (silenceOp s).1.pending = s.pending := by
  simp only [silenceOp]
  repeat' split
  all_goals first | rfl | simp | simp_all

theorem voiceClock_pending (s : State) (v : Fin 5) : (voiceClock s v).pending = s.pending := by
  simp only [voiceClock]; repeat' split
  all_goals simp

theorem foldl_pending {α : Type} (f : State → α → State) (h : ∀ s a, (f s a).pending = s.pending) (l : List α) (s : State) :
    (l.foldl f s).pending = s.pending := by
  induction l generalizing s with
  | nil => rfl
  | cons a l ih => rw [List.foldl_cons, ih, h]

@[simp] theorem engineClock_pending (s : State) : (engineClock s).pending = s.pending := by
  simp [engineClock, foldl_pending _ voiceClock_pending]

@[simp] theorem envelopeFrames_pending (w : BitVec 6) (b : Bool) (s : State) : (envelopeFrames w b s).pending = s.pending :=
  foldl_pending _ (fun s v => by split <;> simp) _ s

@[simp] theorem frameArrivalOp_pending (w : BitVec 6) (s : State) : (frameArrivalOp w s).pending = s.pending := by
  unfold frameArrivalOp; split <;> simp

@[simp] theorem fireAlarm_pending (s : State) (e : Fin 8) : (fireAlarm s e).pending = s.pending := by
  unfold fireAlarm; split <;> simp

@[simp] theorem fireAll_pending (es : List (Fin 8)) (s : State) : (fireAll es s).pending = s.pending :=
  foldl_pending _ fireAlarm_pending es s

@[simp] theorem takeGameDay_pending (s : State) : (takeGameDay s).pending = s.pending := by simp [takeGameDay]
@[simp] theorem takeTime_pending (s : State) : (takeTime s).pending = s.pending := by simp [takeTime]
@[simp] theorem takeSecond_pending (s : State) : (takeSecond s).pending = s.pending := by simp [takeSecond]

@[simp] theorem countdownExpiryOp_pending (e : Fin 8) (s : State) : (countdownExpiryOp e s).pending = s.pending := by
  unfold countdownExpiryOp; repeat' split
  all_goals simp

@[simp] theorem armEntry_pending (m : Master) (e : Fin 8) (d : AlarmDue) (a : Option (Fin 4)) (s : State) :
    (armEntry m e d a s).pending = s.pending := by
  simp only [armEntry]; split <;> simp

@[simp] theorem alarmArmOp_pending (m : Master) (e k r a b1 b2 b3 b4 b5 b6 : Byte) (s : State) :
    (alarmArmOp m e k r a b1 b2 b3 b4 b5 b6 s).1.pending = s.pending := by
  simp only [alarmArmOp, refuse]; repeat' split
  all_goals simp

@[simp] theorem turnDay_pending (s : State) : (turnDay s).1.pending = s.pending := by
  simp only [turnDay]; split <;> simp

@[simp] theorem arrivalTurn_pending (s : State) : (arrivalTurn s).pending = s.pending := by
  simp only [arrivalTurn]; repeat' split
  all_goals simp

@[simp] theorem calendarSecond_pending (s : State) : (calendarSecond s).pending = s.pending := by
  unfold calendarSecond; split <;> simp

@[simp] theorem secondArrivalOp_pending (s : State) : (secondArrivalOp s).pending = s.pending := by
  unfold secondArrivalOp; split <;> simp

@[simp] theorem applyTurns_pending (n : Nat) (r : State × Nat) : (applyTurns n r).1.pending = r.1.pending := by
  induction n generalizing r with
  | zero => rfl
  | succ k ih => simp only [applyTurns]; rw [ih]; simp

@[simp] theorem firstSetting_pending (t : DateTime) (s : State) : (firstSetting t s).pending = s.pending := by simp [firstSetting]

@[simp] theorem forwardSetting_pending (t : DateTime) (s : State) : (forwardSetting t s).pending = s.pending := by
  simp only [forwardSetting, fireAll_pending, postGame_pending]; split <;> simp

@[simp] theorem clockSetOp_pending (a b c d e f : Byte) (s : State) : (clockSetOp a b c d e f s).1.pending = s.pending := by
  simp only [clockSetOp, refuse]; repeat' split
  all_goals simp

@[simp] theorem walkPages_pending (k : Nat) (s : State) : (walkPages k s).pending = s.pending := by
  induction k generalizing s with
  | zero => rfl
  | succ j ih => rw [walkPages, ih]; simp

@[simp] theorem fillWalkDoneOp_pending (s : State) : (fillWalkDoneOp s).pending = s.pending := by
  unfold fillWalkDoneOp; split <;> simp
@[simp] theorem checkWalkDoneOp_pending (s : State) : (checkWalkDoneOp s).pending = s.pending := by
  unfold checkWalkDoneOp; split <;> simp
@[simp] theorem verifyWalkDoneOp_pending (s : State) : (verifyWalkDoneOp s).pending = s.pending := by
  unfold verifyWalkDoneOp; split <;> simp

@[simp] theorem busEffect_pending (i : Instr) (s : State) : (busEffect i s).1.pending = s.pending := by
  cases i <;> simp [busEffect, privileged, refuse]

@[simp] theorem enterSleep_pending (s : State) : (enterSleep s).pending = s.pending := by simp [enterSleep]
@[simp] theorem enterActive_pending (s : State) : (enterActive s).pending = s.pending := by simp [enterActive]

@[simp] theorem powerModeOp_pending (m : Byte) (s : State) : (powerModeOp m s).1.pending = s.pending := by
  simp only [powerModeOp, refuse]; repeat' split
  all_goals simp

@[simp] theorem linkEffect_pending (i : Instr) (s : State) : (linkEffect i s).1.pending = s.pending := by
  cases i <;> simp [linkEffect, noData]

@[simp] theorem report_pending (r : Bool) (code : Byte) (x : Result) : (report r code x).pending = x.1.pending := by
  simp only [report]; repeat' split
  all_goals simp

@[simp] theorem abandonCommand_pending (s : State) : (abandonCommand s).pending = s.pending := by
  unfold abandonCommand; split <;> simp

@[simp] theorem takeBus_pending (b : Byte) (ps : List Byte) (s : State) : (takeBus b ps s).pending = s.pending := by
  unfold takeBus; split <;> simp

@[simp] theorem commandWrite_pending (b : Byte) (s : State) : (commandWrite b s).pending = s.pending := by
  simp only [commandWrite]; repeat' split
  all_goals simp [refuse]

@[simp] theorem dataPortWrite_pending (b : Byte) (s : State) : (dataPortWrite b s).pending = s.pending := by
  simp only [dataPortWrite]; repeat' split
  all_goals simp

@[simp] theorem dataPortRead_pending (s : State) : (dataPortRead s).pending = s.pending := by
  unfold dataPortRead; split <;> simp

@[simp] theorem takeFrame_pending (bytes : List Byte) (s : State) : (takeFrame bytes s).pending = s.pending := by
  unfold takeFrame; split <;> simp only [takeLink] <;> split <;> simp

@[simp] theorem receiveBytes_pending (bytes : List Byte) (s : State) : (receiveBytes bytes s).pending = s.pending := by
  simp only [receiveBytes]; repeat' split
  all_goals simp

@[simp] theorem clockBit_pending (s : State) (b : Bool) : (clockBit s b).pending = s.pending := by
  simp only [clockBit]; repeat' split
  all_goals simp

@[simp] theorem clockBits_pending (bits : List Bool) (s : State) : (clockBits bits s).pending = s.pending :=
  foldl_pending _ clockBit_pending bits s

@[simp] theorem clockIn_pending (bytes : List Byte) (s : State) : (clockIn bytes s).pending = s.pending :=
  clockBits_pending _ s

@[simp] theorem readOut_pending (s : State) : (readOut s).pending = s.pending := by
  unfold readOut; split <;> rfl

@[simp] theorem assertSelect_pending (s : State) : (assertSelect s).pending = s.pending := by
  unfold assertSelect; split <;> rfl
@[simp] theorem releaseSelect_pending (s : State) : (releaseSelect s).pending = s.pending := rfl

@[simp] theorem startUp_pending (s : State) : (startUp s).pending = s.pending := by
  simp only [startUp, completeWake, powerUpMain, cellReset]
  split <;> simp
@[simp] theorem supplyRise_pending (s : State) : (supplyRise s).pending = s.pending := by
  unfold supplyRise; split <;> simp
@[simp] theorem supplyFall_pending (s : State) : (supplyFall s).pending = s.pending := by
  unfold supplyFall; split <;> simp [powerUpMain, noteFall]

@[simp] theorem busResetOp_pending (s : State) : (busResetOp s).pending = s.pending := by
  simp only [busResetOp, grantAfterReset]; repeat' split
  all_goals simp [busResetRecords]

/-! ### The power state -/

@[simp] theorem postBoth_power (k : EventKind) (d : Byte) (s : State) : (postBoth k d s).power = s.power := by
  simp only [postBoth]
  repeat' split
  all_goals first | rfl | simp | simp_all

@[simp] theorem postTo_power (m : Master) (k : EventKind) (d : Byte) (s : State) : (postTo m k d s).power = s.power := by
  simp only [postTo]
  repeat' split
  all_goals first | rfl | simp | simp_all

@[simp] theorem noteRefusal_power (o : OutcomeCode) (s : State) : (noteRefusal o s).power = s.power := by
  simp only [noteRefusal]
  repeat' split
  all_goals first | rfl | simp | simp_all

@[simp] theorem refuseAccess_power (o : OutcomeCode) (s : State) : (refuseAccess o s).power = s.power := by
  simp only [refuseAccess]
  repeat' split
  all_goals first | rfl | simp | simp_all

@[simp] theorem refuseRead_power (o : OutcomeCode) (s : State) : (refuseRead o s).power = s.power := by
  simp only [refuseRead]
  repeat' split
  all_goals first | rfl | simp | simp_all

@[simp] theorem stepVoice_power (v : Fin 5) (s : State) : (stepVoice v s).power = s.power := by
  simp only [stepVoice]
  repeat' split
  all_goals first | rfl | simp | simp_all

@[simp] theorem voiceExpiry_power (v : Fin 5) (s : State) : (voiceExpiry v s).power = s.power := by
  simp only [voiceExpiry]
  repeat' split
  all_goals first | rfl | simp | simp_all

@[simp] theorem setEnvelope_power (v : Fin 6) (e : Envelope) (s : State) : (setEnvelope v e s).power = s.power := by
  simp only [setEnvelope]
  repeat' split
  all_goals first | rfl | simp | simp_all

@[simp] theorem stopAtZero_power (v : Fin 5) (s : State) : (stopAtZero v s).power = s.power := by
  simp only [stopAtZero]
  repeat' split
  all_goals first | rfl | simp | simp_all

@[simp] theorem moveEnvelope_power (v : Fin 6) (s : State) : (moveEnvelope v s).power = s.power := by
  simp only [moveEnvelope]
  repeat' split
  all_goals first | rfl | simp | simp_all

@[simp] theorem envelopeFrame_power (v : Fin 6) (s : State) : (envelopeFrame v s).power = s.power := by
  simp only [envelopeFrame]
  repeat' split
  all_goals first | rfl | simp | simp_all

@[simp] theorem envelopeExpiry_power (v : Fin 6) (s : State) : (envelopeExpiry v s).power = s.power := by
  simp only [envelopeExpiry]
  repeat' split
  all_goals first | rfl | simp | simp_all

@[simp] theorem voiceSetOp_power (a b c d e : Byte) (s : State) : (voiceSetOp a b c d e s).1.power = s.power := by
  simp only [voiceSetOp, refuse]
  repeat' split
  all_goals first | rfl | simp | simp_all

@[simp] theorem startVoices_power (m : Byte) (s : State) : (startVoices m s).power = s.power := by
  simp only [startVoices]
  repeat' split
  all_goals first | rfl | simp | simp_all

@[simp] theorem stopVoices_power (m : Byte) (s : State) : (stopVoices m s).power = s.power := by
  simp only [stopVoices]
  repeat' split
  all_goals first | rfl | simp | simp_all

@[simp] theorem voicePitchOp_power (v : Byte) (d : Half) (t : Byte) (s : State) : (voicePitchOp v d t s).1.power = s.power := by
  simp only [voicePitchOp, refuse]
  repeat' split
  all_goals first | rfl | simp | simp_all

@[simp] theorem voiceLevelOp_power (a b c d : Byte) (s : State) : (voiceLevelOp a b c d s).1.power = s.power := by
  simp only [voiceLevelOp, refuse]
  repeat' split
  all_goals first | rfl | simp | simp_all

@[simp] theorem waveLayoutOp_power (l : Byte) (s : State) : (waveLayoutOp l s).1.power = s.power := by
  simp only [waveLayoutOp, refuse]
  repeat' split
  all_goals first | rfl | simp | simp_all

@[simp] theorem pauseVoices_power (s : State) : (pauseVoices s).power = s.power := by
  simp only [pauseVoices]
  repeat' split
  all_goals first | rfl | simp | simp_all

@[simp] theorem resumeVoices_power (s : State) : (resumeVoices s).power = s.power := by
  simp only [resumeVoices]
  repeat' split
  all_goals first | rfl | simp | simp_all

@[simp] theorem silenceVoices_power (s : State) : (silenceVoices s).power = s.power := by
  simp only [silenceVoices]
  repeat' split
  all_goals first | rfl | simp | simp_all

@[simp] theorem resetVoices_power (s : State) : (resetVoices s).power = s.power := by
  simp only [resetVoices]
  repeat' split
  all_goals first | rfl | simp | simp_all

@[simp] theorem ringWrite_power (b : Byte) (s : State) : (ringWrite b s).power = s.power := by
  simp only [ringWrite]
  repeat' split
  all_goals first | rfl | simp | simp_all

@[simp] theorem streamStep_power (s : State) : (streamStep s).power = s.power := by
  simp only [streamStep]
  repeat' split
  all_goals first | rfl | simp | simp_all

@[simp] theorem streamExpiry_power (s : State) : (streamExpiry s).power = s.power := by
  simp only [streamExpiry]
  repeat' split
  all_goals first | rfl | simp | simp_all

@[simp] theorem startStream_power (s : State) : (startStream s).power = s.power := by
  simp only [startStream]
  repeat' split
  all_goals first | rfl | simp | simp_all

@[simp] theorem stopStream_power (s : State) : (stopStream s).power = s.power := by
  simp only [stopStream]
  repeat' split
  all_goals first | rfl | simp | simp_all

@[simp] theorem voiceStartOp_power (m : Byte) (s : State) : (voiceStartOp m s).1.power = s.power := by
  simp only [voiceStartOp]
  repeat' split
  all_goals first | rfl | simp | simp_all

@[simp] theorem voiceStopOp_power (m : Byte) (s : State) : (voiceStopOp m s).1.power = s.power := by
  simp only [voiceStopOp]
  repeat' split
  all_goals first | rfl | simp | simp_all

@[simp] theorem ringFlushOp_power (s : State) : (ringFlushOp s).1.power = s.power := by
  simp only [ringFlushOp]
  repeat' split
  all_goals first | rfl | simp | simp_all

@[simp] theorem ringSetOp_power (m : Byte) (s : State) : (ringSetOp m s).1.power = s.power := by
  simp only [ringSetOp]
  repeat' split
  all_goals first | rfl | simp | simp_all

@[simp] theorem silenceStream_power (s : State) : (silenceStream s).power = s.power := by
  simp only [silenceStream]
  repeat' split
  all_goals first | rfl | simp | simp_all

@[simp] theorem pauseStream_power (s : State) : (pauseStream s).power = s.power := by
  simp only [pauseStream]
  repeat' split
  all_goals first | rfl | simp | simp_all

@[simp] theorem resumeStream_power (s : State) : (resumeStream s).power = s.power := by
  simp only [resumeStream]
  repeat' split
  all_goals first | rfl | simp | simp_all

@[simp] theorem resetRing_power (s : State) : (resetRing s).power = s.power := by
  simp only [resetRing]
  repeat' split
  all_goals first | rfl | simp | simp_all

@[simp] theorem streamClock_power (s : State) : (streamClock s).power = s.power := by
  simp only [streamClock]
  repeat' split
  all_goals first | rfl | simp | simp_all

@[simp] theorem mixFrame_power (s : State) : (mixFrame s).power = s.power := by
  simp only [mixFrame]
  repeat' split
  all_goals first | rfl | simp | simp_all

@[simp] theorem mixSetOp_power (a b c : Byte) (s : State) : (mixSetOp a b c s).1.power = s.power := by
  simp only [mixSetOp, refuse]
  repeat' split
  all_goals first | rfl | simp | simp_all

@[simp] theorem clipClearOp_power (s : State) : (clipClearOp s).1.power = s.power := by
  simp only [clipClearOp]
  repeat' split
  all_goals first | rfl | simp | simp_all

@[simp] theorem holdDac_power (s : State) : (holdDac s).power = s.power := by
  simp only [holdDac]
  repeat' split
  all_goals first | rfl | simp | simp_all

@[simp] theorem resetMixer_power (s : State) : (resetMixer s).power = s.power := by
  simp only [resetMixer]
  repeat' split
  all_goals first | rfl | simp | simp_all

@[simp] theorem loadStep_power (p : Fin 4) (n k : Nat) (s : State) : (loadStep p n k s).power = s.power := by
  simp only [loadStep]
  repeat' split
  all_goals first | rfl | simp | simp_all

@[simp] theorem endPattern_power (p : Fin 4) (s : State) : (endPattern p s).power = s.power := by
  simp only [endPattern]
  repeat' split
  all_goals first | rfl | simp | simp_all

@[simp] theorem loadFirst_power (p : Fin 4) (n : Nat) (s : State) : (loadFirst p n s).power = s.power := by
  simp only [loadFirst]
  repeat' split
  all_goals first | rfl | simp | simp_all

@[simp] theorem startPattern_power (p : Fin 4) (n : Nat) (s : State) : (startPattern p n s).power = s.power := by
  simp only [startPattern]
  repeat' split
  all_goals first | rfl | simp | simp_all

@[simp] theorem nextStep_power (p : Fin 4) (n k : Nat) (s : State) : (nextStep p n k s).power = s.power := by
  simp only [nextStep]
  repeat' split
  all_goals first | rfl | simp | simp_all

@[simp] theorem sequencePattern_power (s : State) : (sequencePattern s).power = s.power := by
  simp only [sequencePattern]
  repeat' split
  all_goals first | rfl | simp | simp_all

@[simp] theorem beginRest_power (c : Nat) (s : State) : (beginRest c s).power = s.power := by
  simp only [beginRest]
  repeat' split
  all_goals first | rfl | simp | simp_all

@[simp] theorem endRest_power (s : State) : (endRest s).power = s.power := by
  simp only [endRest]
  repeat' split
  all_goals first | rfl | simp | simp_all

@[simp] theorem runAccounting_power (s : State) : (runAccounting s).power = s.power := by
  simp only [runAccounting]
  repeat' split
  all_goals first | rfl | simp | simp_all

@[simp] theorem tickOp_power (s : State) : (tickOp s).power = s.power := by
  simp only [tickOp]
  repeat' split
  all_goals first | rfl | simp | simp_all

@[simp] theorem patternStepEndOp_power (s : State) : (patternStepEndOp s).power = s.power := by
  simp only [patternStepEndOp]
  repeat' split
  all_goals first | rfl | simp | simp_all

@[simp] theorem restBeginOp_power (s : State) : (restBeginOp s).power = s.power := by
  simp only [restBeginOp]
  repeat' split
  all_goals first | rfl | simp | simp_all

@[simp] theorem restEndOp_power (s : State) : (restEndOp s).power = s.power := by
  simp only [restEndOp]
  repeat' split
  all_goals first | rfl | simp | simp_all

@[simp] theorem motorPeriodOp_power (s : State) : (motorPeriodOp s).power = s.power := by
  simp only [motorPeriodOp]
  repeat' split
  all_goals first | rfl | simp | simp_all

@[simp] theorem rumbleDirectOp_power (l : Byte) (s : State) : (rumbleDirectOp l s).1.power = s.power := by
  simp only [rumbleDirectOp]
  repeat' split
  all_goals first | rfl | simp | simp_all

@[simp] theorem rumbleStopOp_power (s : State) : (rumbleStopOp s).1.power = s.power := by
  simp only [rumbleStopOp]
  repeat' split
  all_goals first | rfl | simp | simp_all

@[simp] theorem rumbleLinkOp_power (v : Byte) (s : State) : (rumbleLinkOp v s).1.power = s.power := by
  simp only [rumbleLinkOp, refuseRumble, refuse]
  repeat' split
  all_goals first | rfl | simp | simp_all

@[simp] theorem rumblePatternOp_power (p n : Byte) (s : State) : (rumblePatternOp p n s).1.power = s.power := by
  simp only [rumblePatternOp, refuseRumble, refuse]
  repeat' split
  all_goals first | rfl | simp | simp_all

@[simp] theorem rumbleLimitOp_power (l : Byte) (s : State) : (rumbleLimitOp l s).1.power = s.power := by
  simp only [rumbleLimitOp]
  repeat' split
  all_goals first | rfl | simp | simp_all

@[simp] theorem silenceRumble_power (s : State) : (silenceRumble s).power = s.power := by
  simp only [silenceRumble]
  repeat' split
  all_goals first | rfl | simp | simp_all

@[simp] theorem resetRumble_power (s : State) : (resetRumble s).power = s.power := by
  simp only [resetRumble]
  repeat' split
  all_goals first | rfl | simp | simp_all

@[simp] theorem performAction_power (a : AlarmEntry) (s : State) : (performAction a s).power = s.power := by
  simp only [performAction]
  repeat' split
  all_goals first | rfl | simp | simp_all

@[simp] theorem alarmDisarmOp_power (m : Master) (e : Byte) (s : State) : (alarmDisarmOp m e s).1.power = s.power := by
  simp only [alarmDisarmOp, refuse]
  repeat' split
  all_goals first | rfl | simp | simp_all

@[simp] theorem freeAlarms_power (s : State) : (freeAlarms s).power = s.power := by
  simp only [freeAlarms]
  repeat' split
  all_goals first | rfl | simp | simp_all

@[simp] theorem clearMissed_power (s : State) : (clearMissed s).power = s.power := by
  simp only [clearMissed]
  repeat' split
  all_goals first | rfl | simp | simp_all

@[simp] theorem dayStartOp_power (h m : Byte) (s : State) : (dayStartOp h m s).1.power = s.power := by
  simp only [dayStartOp, refuse]
  repeat' split
  all_goals first | rfl | simp | simp_all

@[simp] theorem catchUpLimitOp_power (l : Half) (s : State) : (catchUpLimitOp l s).1.power = s.power := by
  simp only [catchUpLimitOp]
  repeat' split
  all_goals first | rfl | simp | simp_all

@[simp] theorem rebaseOp_power (d : Half) (s : State) : (rebaseOp d s).1.power = s.power := by
  simp only [rebaseOp]
  repeat' split
  all_goals first | rfl | simp | simp_all

@[simp] theorem sameSetting_power (s : State) : (sameSetting s).power = s.power := by
  simp only [sameSetting]
  repeat' split
  all_goals first | rfl | simp | simp_all

@[simp] theorem backwardSetting_power (t : DateTime) (s : State) : (backwardSetting t s).power = s.power := by
  simp only [backwardSetting]
  repeat' split
  all_goals first | rfl | simp | simp_all

@[simp] theorem resetCalendar_power (s : State) : (resetCalendar s).power = s.power := by
  simp only [resetCalendar]
  repeat' split
  all_goals first | rfl | simp | simp_all

@[simp] theorem grantHold_power (m : HoldMode) (s : State) : (grantHold m s).power = s.power := by
  simp only [grantHold]
  repeat' split
  all_goals first | rfl | simp | simp_all

@[simp] theorem grantPending_power (s : State) : (grantPending s).power = s.power := by
  simp only [grantPending]
  repeat' split
  all_goals first | rfl | simp | simp_all

@[simp] theorem rollBack_power (k : EndKind) (s : State) : (rollBack k s).power = s.power := by
  simp only [rollBack]
  repeat' split
  all_goals first | rfl | simp | simp_all

@[simp] theorem rollBackWithFail_power (k : EndKind) (s : State) : (rollBackWithFail k s).power = s.power := by
  simp only [rollBackWithFail]
  repeat' split
  all_goals first | rfl | simp | simp_all

@[simp] theorem fillComplete_power (t : Txn) (s : State) : (fillComplete t s).power = s.power := by
  simp only [fillComplete]
  repeat' split
  all_goals first | rfl | simp | simp_all

@[simp] theorem switchSlot_power (t : Txn) (ab : Nat × Nat) (s : State) : (switchSlot t ab s).power = s.power := by
  simp only [switchSlot]
  repeat' split
  all_goals first | rfl | simp | simp_all

@[simp] theorem verifyComplete_power (n : SlotNo) (ab : Nat × Nat) (s : State) : (verifyComplete n ab s).power = s.power := by
  simp only [verifyComplete]
  repeat' split
  all_goals first | rfl | simp | simp_all

@[simp] theorem fillWalkPage_power (n : SlotNo) (d : Nat) (s : State) : (fillWalkPage n d s).power = s.power := by
  simp only [fillWalkPage]
  repeat' split
  all_goals first | rfl | simp | simp_all

@[simp] theorem checkWalkPage_power (n : SlotNo) (d a b : Nat) (s : State) : (checkWalkPage n d a b s).power = s.power := by
  simp only [checkWalkPage]
  repeat' split
  all_goals first | rfl | simp | simp_all

@[simp] theorem verifyWalkPage_power (n : SlotNo) (d a b : Nat) (s : State) : (verifyWalkPage n d a b s).power = s.power := by
  simp only [verifyWalkPage]
  repeat' split
  all_goals first | rfl | simp | simp_all

@[simp] theorem walkPageOp_power (s : State) : (walkPageOp s).power = s.power := by
  simp only [walkPageOp]
  repeat' split
  all_goals first | rfl | simp | simp_all

@[simp] theorem openTransaction_power (n : SlotNo) (z : Nat) (m : FillMode) (s : State) : (openTransaction n z m s).power = s.power := by
  simp only [openTransaction]
  repeat' split
  all_goals first | rfl | simp | simp_all

@[simp] theorem openOp_power (n z m : Byte) (s : State) : (openOp n z m s).1.power = s.power := by
  simp only [openOp, refuse]
  repeat' split
  all_goals first | rfl | simp | simp_all

@[simp] theorem commitOp_power (s : State) : (commitOp s).1.power = s.power := by
  simp only [commitOp, refuse]
  repeat' split
  all_goals first | rfl | simp | simp_all

@[simp] theorem abortOp_power (s : State) : (abortOp s).1.power = s.power := by
  simp only [abortOp, refuse]
  repeat' split
  all_goals first | rfl | simp | simp_all

@[simp] theorem eraseOp_power (n : Byte) (s : State) : (eraseOp n s).1.power = s.power := by
  simp only [eraseOp, refuse]
  repeat' split
  all_goals first | rfl | simp | simp_all

@[simp] theorem verifyOp_power (n : Byte) (s : State) : (verifyOp n s).1.power = s.power := by
  simp only [verifyOp, refuse]
  repeat' split
  all_goals first | rfl | simp | simp_all

@[simp] theorem newHold_power (m : HoldMode) (s : State) : (newHold m s).1.power = s.power := by
  simp only [newHold]
  repeat' split
  all_goals first | rfl | simp | simp_all

@[simp] theorem upgradeHold_power (s : State) : (upgradeHold s).1.power = s.power := by
  simp only [upgradeHold]
  repeat' split
  all_goals first | rfl | simp | simp_all

@[simp] theorem holdOp_power (m : Byte) (s : State) : (holdOp m s).1.power = s.power := by
  simp only [holdOp, refuse]
  repeat' split
  all_goals first | rfl | simp | simp_all

@[simp] theorem releaseOp_power (s : State) : (releaseOp s).1.power = s.power := by
  simp only [releaseOp]
  repeat' split
  all_goals first | rfl | simp | simp_all

@[simp] theorem slotReadOp_power (n : Byte) (o : Half) (c : Byte) (s : State) : (slotReadOp n o c s).1.power = s.power := by
  simp only [slotReadOp]
  repeat' split
  all_goals first | rfl | simp | simp_all

@[simp] theorem resetStore_power (s : State) : (resetStore s).power = s.power := by
  simp only [resetStore]
  repeat' split
  all_goals first | rfl | simp | simp_all

@[simp] theorem busResetStore_power (s : State) : (busResetStore s).power = s.power := by
  simp only [busResetStore]
  repeat' split
  all_goals first | rfl | simp | simp_all

@[simp] theorem supplyFallStore_power (s : State) : (supplyFallStore s).power = s.power := by
  simp only [supplyFallStore]
  repeat' split
  all_goals first | rfl | simp | simp_all

@[simp] theorem readRecordOp_power (r x : Byte) (s : State) : (readRecordOp r x s).1.power = s.power := by
  simp only [readRecordOp]
  repeat' split
  all_goals first | rfl | simp | simp_all

@[simp] theorem selectSlot_power (x : Byte) (a : Nat) (s : State) : (selectSlot x a s).1.power = s.power := by
  simp only [selectSlot, refuse]
  repeat' split
  all_goals first | rfl | simp | simp_all

@[simp] theorem selectStage_power (a : Nat) (s : State) : (selectStage a s).1.power = s.power := by
  simp only [selectStage, refuse]
  repeat' split
  all_goals first | rfl | simp | simp_all

@[simp] theorem selectInfo_power (x : Byte) (a : Half) (s : State) : (selectInfo x a s).1.power = s.power := by
  simp only [selectInfo, refuse]
  repeat' split
  all_goals first | rfl | simp | simp_all

@[simp] theorem selectOp_power (t x : Byte) (a : Half) (s : State) : (selectOp t x a s).1.power = s.power := by
  simp only [selectOp, refuse]
  repeat' split
  all_goals first | rfl | simp | simp_all

@[simp] theorem entryOp_power (d : Byte) (s : State) : (entryOp d s).1.power = s.power := by
  simp only [entryOp, refuse]
  repeat' split
  all_goals first | rfl | simp | simp_all

@[simp] theorem statusClearOp_power (s : State) : (statusClearOp s).1.power = s.power := by
  simp only [statusClearOp]
  repeat' split
  all_goals first | rfl | simp | simp_all

@[simp] theorem advanceCounter_power (n : Nat) (s : State) : (advanceCounter n s).power = s.power := by
  simp only [advanceCounter]
  repeat' split
  all_goals first | rfl | simp | simp_all

@[simp] theorem stageWrite_power (b : Byte) (s : State) : (stageWrite b s).power = s.power := by
  simp only [stageWrite]
  repeat' split
  all_goals first | rfl | simp | simp_all

@[simp] theorem targetWrite_power (b : Byte) (s : State) : (targetWrite b s).power = s.power := by
  simp only [targetWrite]
  repeat' split
  all_goals first | rfl | simp | simp_all

@[simp] theorem latchRead_power (n : Nat) (l : Nat → Byte) (s : State) : (latchRead n l s).power = s.power := by
  simp only [latchRead]
  repeat' split
  all_goals first | rfl | simp | simp_all

@[simp] theorem slotPortRead_power (n : SlotNo) (s : State) : (slotPortRead n s).power = s.power := by
  simp only [slotPortRead]
  repeat' split
  all_goals first | rfl | simp | simp_all

@[simp] theorem stageRead_power (s : State) : (stageRead s).power = s.power := by
  simp only [stageRead]
  repeat' split
  all_goals first | rfl | simp | simp_all

@[simp] theorem targetRead_power (s : State) : (targetRead s).power = s.power := by
  simp only [targetRead]
  repeat' split
  all_goals first | rfl | simp | simp_all

@[simp] theorem modifyEvents_power (m : Master) (f : EventRecord → EventRecord) (s : State) : (modifyEvents m f s).power = s.power := by
  simp only [modifyEvents]
  repeat' split
  all_goals first | rfl | simp | simp_all

@[simp] theorem eventAckOp_power (m : Master) (s : State) : (eventAckOp m s).1.power = s.power := by
  simp only [eventAckOp]
  repeat' split
  all_goals first | rfl | simp | simp_all

@[simp] theorem eventAckLostOp_power (m : Master) (s : State) : (eventAckLostOp m s).1.power = s.power := by
  simp only [eventAckLostOp]
  repeat' split
  all_goals first | rfl | simp | simp_all

@[simp] theorem eventMaskOp_power (m : Master) (a b c : Byte) (s : State) : (eventMaskOp m a b c s).1.power = s.power := by
  simp only [eventMaskOp]
  repeat' split
  all_goals first | rfl | simp | simp_all

@[simp] theorem lineEnableOp_power (m : Master) (e : Byte) (s : State) : (lineEnableOp m e s).1.power = s.power := by
  simp only [lineEnableOp, refuse]
  repeat' split
  all_goals first | rfl | simp | simp_all

@[simp] theorem changeBattery_power (b : BatteryState) (s : State) : (changeBattery b s).power = s.power := by
  simp only [changeBattery]
  repeat' split
  all_goals first | rfl | simp | simp_all

@[simp] theorem batteryOp_power (b : Byte) (s : State) : (batteryOp b s).1.power = s.power := by
  simp only [batteryOp, refuse]
  repeat' split
  all_goals first | rfl | simp | simp_all

@[simp] theorem silenceOp_power (s : State) : (silenceOp s).1.power = s.power := by
  simp only [silenceOp]
  repeat' split
  all_goals first | rfl | simp | simp_all

theorem voiceClock_power (s : State) (v : Fin 5) : (voiceClock s v).power = s.power := by
  simp only [voiceClock]; repeat' split
  all_goals simp

theorem foldl_power {α : Type} (f : State → α → State) (h : ∀ s a, (f s a).power = s.power) (l : List α) (s : State) :
    (l.foldl f s).power = s.power := by
  induction l generalizing s with
  | nil => rfl
  | cons a l ih => rw [List.foldl_cons, ih, h]

@[simp] theorem engineClock_power (s : State) : (engineClock s).power = s.power := by
  simp [engineClock, foldl_power _ voiceClock_power]

@[simp] theorem envelopeFrames_power (w : BitVec 6) (b : Bool) (s : State) : (envelopeFrames w b s).power = s.power :=
  foldl_power _ (fun s v => by split <;> simp) _ s

@[simp] theorem frameArrivalOp_power (w : BitVec 6) (s : State) : (frameArrivalOp w s).power = s.power := by
  unfold frameArrivalOp; split <;> simp

@[simp] theorem fireAlarm_power (s : State) (e : Fin 8) : (fireAlarm s e).power = s.power := by
  unfold fireAlarm; split <;> simp

@[simp] theorem fireAll_power (es : List (Fin 8)) (s : State) : (fireAll es s).power = s.power :=
  foldl_power _ fireAlarm_power es s

@[simp] theorem takeGameDay_power (s : State) : (takeGameDay s).power = s.power := by simp [takeGameDay]
@[simp] theorem takeTime_power (s : State) : (takeTime s).power = s.power := by simp [takeTime]
@[simp] theorem takeSecond_power (s : State) : (takeSecond s).power = s.power := by simp [takeSecond]

@[simp] theorem countdownExpiryOp_power (e : Fin 8) (s : State) : (countdownExpiryOp e s).power = s.power := by
  unfold countdownExpiryOp; repeat' split
  all_goals simp

@[simp] theorem armEntry_power (m : Master) (e : Fin 8) (d : AlarmDue) (a : Option (Fin 4)) (s : State) :
    (armEntry m e d a s).power = s.power := by
  simp only [armEntry]; split <;> simp

@[simp] theorem alarmArmOp_power (m : Master) (e k r a b1 b2 b3 b4 b5 b6 : Byte) (s : State) :
    (alarmArmOp m e k r a b1 b2 b3 b4 b5 b6 s).1.power = s.power := by
  simp only [alarmArmOp, refuse]; repeat' split
  all_goals simp

@[simp] theorem turnDay_power (s : State) : (turnDay s).1.power = s.power := by
  simp only [turnDay]; split <;> simp

@[simp] theorem arrivalTurn_power (s : State) : (arrivalTurn s).power = s.power := by
  simp only [arrivalTurn]; repeat' split
  all_goals simp

@[simp] theorem calendarSecond_power (s : State) : (calendarSecond s).power = s.power := by
  unfold calendarSecond; split <;> simp

@[simp] theorem secondArrivalOp_power (s : State) : (secondArrivalOp s).power = s.power := by
  unfold secondArrivalOp; split <;> simp

@[simp] theorem applyTurns_power (n : Nat) (r : State × Nat) : (applyTurns n r).1.power = r.1.power := by
  induction n generalizing r with
  | zero => rfl
  | succ k ih => simp only [applyTurns]; rw [ih]; simp

@[simp] theorem firstSetting_power (t : DateTime) (s : State) : (firstSetting t s).power = s.power := by simp [firstSetting]

@[simp] theorem forwardSetting_power (t : DateTime) (s : State) : (forwardSetting t s).power = s.power := by
  simp only [forwardSetting, fireAll_power, postGame_power]; split <;> simp

@[simp] theorem clockSetOp_power (a b c d e f : Byte) (s : State) : (clockSetOp a b c d e f s).1.power = s.power := by
  simp only [clockSetOp, refuse]; repeat' split
  all_goals simp

@[simp] theorem walkPages_power (k : Nat) (s : State) : (walkPages k s).power = s.power := by
  induction k generalizing s with
  | zero => rfl
  | succ j ih => rw [walkPages, ih]; simp

@[simp] theorem fillWalkDoneOp_power (s : State) : (fillWalkDoneOp s).power = s.power := by
  unfold fillWalkDoneOp; split <;> simp
@[simp] theorem checkWalkDoneOp_power (s : State) : (checkWalkDoneOp s).power = s.power := by
  unfold checkWalkDoneOp; split <;> simp
@[simp] theorem verifyWalkDoneOp_power (s : State) : (verifyWalkDoneOp s).power = s.power := by
  unfold verifyWalkDoneOp; split <;> simp

@[simp] theorem busEffect_power (i : Instr) (s : State) : (busEffect i s).1.power = s.power := by
  cases i <;> simp [busEffect, privileged, refuse]

end Sys2Proof.Machine
end

