-- ==== Sys2Proof/Laws/Memory.lean ====
section
/-! SUPPORT. Reading a byte after writing one, and that every memory operation keeps the canonical form. -/

namespace Sys2Proof.Machine

/-- Every cell of a rising memory whose first address is above `a` lies above `a`. -/
def Memory.above (a : Nat) (m : Memory) : Prop := ∀ c ∈ m, a < c.1

theorem Memory.rising_cons (x : Host.Cell) (m : Memory) :
    Memory.rising (x :: m) = true ↔ Memory.above x.1 m ∧ Memory.rising m = true := by
  induction m generalizing x with
  | nil => simp [Memory.rising, Memory.above]
  | cons y rest ih =>
    simp only [Memory.rising, Bool.and_eq_true, decide_eq_true_eq]
    constructor
    · rintro ⟨h, hr⟩
      refine ⟨fun c hc => ?_, hr⟩
      rcases List.mem_cons.1 hc with rfl | hc
      · exact h
      · exact Nat.lt_trans h (((ih y).1 hr).1 c hc)
    · rintro ⟨h, hr⟩
      exact ⟨h y (List.mem_cons_self ..), hr⟩

/-- In a memory that lies above `a`, `a` is not listed. -/
theorem Memory.read_above {u : Byte} {a : Nat} {m : Memory} (h : Memory.above a m) : Memory.read u m a = u := by
  induction m with
  | nil => rfl
  | cons x rest ih =>
    have hx := h x (List.mem_cons_self ..)
    have : x.1 ≠ a := by omega
    simp only [Memory.read, this, if_false]
    exact ih fun c hc => h c (List.mem_cons_of_mem _ hc)

theorem Memory.above_trans {a b : Nat} {m : Memory} (hab : a ≤ b) (h : Memory.above b m) : Memory.above a m :=
  fun c hc => Nat.lt_of_le_of_lt hab (h c hc)

theorem Memory.above_insert {k a : Nat} {b : Byte} {m : Memory} (hk : k < a) (h : Memory.above k m) :
    Memory.above k (Memory.insert a b m) := by
  induction m with
  | nil => intro c hc; simp [Memory.insert] at hc; simp [hc, hk]
  | cons x rest ih =>
    intro c hc
    simp only [Memory.insert] at hc
    have hx := h x (List.mem_cons_self ..)
    have hrest : Memory.above k rest := fun c hc => h c (List.mem_cons_of_mem _ hc)
    split at hc
    · rcases List.mem_cons.1 hc with rfl | hc
      · exact hk
      · exact h c hc
    · split at hc
      · rcases List.mem_cons.1 hc with rfl | hc
        · exact hk
        · exact hrest c hc
      · rcases List.mem_cons.1 hc with rfl | hc
        · exact hx
        · exact ih hrest c hc

theorem Memory.mem_erase {a : Nat} {m : Memory} {c : Host.Cell} (h : c ∈ Memory.erase a m) : c ∈ m := by
  induction m with
  | nil => simp [Memory.erase] at h
  | cons x rest ih =>
    simp only [Memory.erase] at h
    split at h
    · exact List.mem_cons_of_mem _ h
    · rcases List.mem_cons.1 h with rfl | h
      · exact List.mem_cons_self ..
      · exact List.mem_cons_of_mem _ (ih h)

theorem Memory.mem_insert {a : Nat} {b : Byte} {m : Memory} {c : Host.Cell} (h : c ∈ Memory.insert a b m) :
    c = (a, b) ∨ c ∈ m := by
  induction m with
  | nil => simpa [Memory.insert] using h
  | cons x rest ih =>
    simp only [Memory.insert] at h
    split at h
    · simpa using h
    · split at h
      · rcases List.mem_cons.1 h with rfl | h
        · exact .inl rfl
        · exact .inr (List.mem_cons_of_mem _ h)
      · rcases List.mem_cons.1 h with rfl | h
        · exact .inr (List.mem_cons_self ..)
        · exact (ih h).imp id (List.mem_cons_of_mem _)

theorem Memory.rising_insert {a : Nat} {b : Byte} {m : Memory} (h : Memory.rising m = true) :
    Memory.rising (Memory.insert a b m) = true := by
  induction m with
  | nil => rfl
  | cons x rest ih =>
    obtain ⟨hx, hr⟩ := (Memory.rising_cons x rest).1 h
    simp only [Memory.insert]
    split
    · rename_i hlt
      refine (Memory.rising_cons _ _).2 ⟨fun c hc => ?_, h⟩
      rcases List.mem_cons.1 hc with rfl | hc
      · exact hlt
      · exact Nat.lt_trans hlt (hx c hc)
    · split
      · rename_i heq
        refine (Memory.rising_cons _ _).2 ⟨?_, hr⟩
        show Memory.above a rest
        rw [heq]; exact hx
      · refine (Memory.rising_cons _ _).2 ⟨Memory.above_insert ?_ hx, ih hr⟩
        show x.1 < a
        omega

theorem Memory.rising_erase {a : Nat} {m : Memory} (h : Memory.rising m = true) :
    Memory.rising (Memory.erase a m) = true := by
  induction m with
  | nil => rfl
  | cons x rest ih =>
    obtain ⟨hx, hr⟩ := (Memory.rising_cons x rest).1 h
    simp only [Memory.erase]
    split
    · exact hr
    · exact (Memory.rising_cons _ _).2 ⟨fun c hc => hx c (Memory.mem_erase hc), ih hr⟩

theorem Memory.read_insert {u : Byte} {a : Nat} {b : Byte} {m : Memory} (x : Nat)
    (h : Memory.rising m = true) :
    Memory.read u (Memory.insert a b m) x = if x = a then b else Memory.read u m x := by
  induction m with
  | nil => simp [Memory.insert, Memory.read, eq_comm]
  | cons y rest ih =>
    obtain ⟨hy, hr⟩ := (Memory.rising_cons y rest).1 h
    simp only [Memory.insert]
    split
    · by_cases hxa : x = a
      · simp [Memory.read, hxa]
      · simp [Memory.read, hxa, Ne.symm hxa]
    · split
      · rename_i heq
        by_cases hxa : x = a
        · simp [Memory.read, hxa]
        · have h1 : ¬a = x := fun e => hxa e.symm
          have h2 : ¬y.1 = x := fun e => hxa (by omega)
          simp [Memory.read, hxa, h1, h2]
      · by_cases hyx : y.1 = x
        · have : x ≠ a := by omega
          simp [Memory.read, hyx, this]
        · simp only [Memory.read, hyx, if_false]
          exact ih hr

theorem Memory.read_erase {u : Byte} {a : Nat} {m : Memory} (x : Nat) (h : Memory.rising m = true) :
    Memory.read u (Memory.erase a m) x = if x = a then u else Memory.read u m x := by
  induction m with
  | nil => simp [Memory.erase, Memory.read]
  | cons y rest ih =>
    obtain ⟨hy, hr⟩ := (Memory.rising_cons y rest).1 h
    simp only [Memory.erase]
    split
    · rename_i heq
      by_cases hxa : x = a
      · subst hxa heq
        simp [Memory.read_above hy]
      · have : ¬y.1 = x := fun e => hxa (by omega)
        simp [Memory.read, hxa, this]
    · by_cases hyx : y.1 = x
      · have : x ≠ a := by omega
        simp [Memory.read, hyx, this]
      · simp only [Memory.read, hyx, if_false]
        exact ih hr

/-- Reading after writing: the byte written at its address, every other byte as before. -/
theorem Memory.read_write {u : Byte} {m : Memory} (a : Nat) (b : Byte) (x : Nat) (h : Memory.rising m = true) :
    Memory.read u (Memory.write u m a b) x = if x = a then b else Memory.read u m x := by
  unfold Memory.write
  split
  · rename_i hb
    rw [Memory.read_erase x h, hb]
  · exact Memory.read_insert x h

/-- The canonical form said for each cell. -/
theorem Memory.wf_iff {u : Byte} {size : Nat} {m : Memory} :
    Memory.wf u size m = true ↔ Memory.rising m = true ∧ ∀ c ∈ m, c.1 < size ∧ c.2 ≠ u := by
  simp [Memory.wf]

/-- A write inside the address range keeps the canonical form. -/
theorem Memory.wf_write {u : Byte} {size : Nat} {m : Memory} {a : Nat} (b : Byte) (ha : a < size)
    (h : Memory.wf u size m = true) : Memory.wf u size (Memory.write u m a b) = true := by
  obtain ⟨hr, hc⟩ := Memory.wf_iff.1 h
  unfold Memory.write
  split
  · exact Memory.wf_iff.2 ⟨Memory.rising_erase hr, fun c hm => hc c (Memory.mem_erase hm)⟩
  · rename_i hb
    refine Memory.wf_iff.2 ⟨Memory.rising_insert hr, fun c hm => ?_⟩
    rcases Memory.mem_insert hm with rfl | hm
    · exact ⟨ha, hb⟩
    · exact hc c hm

theorem pageAddress_lt (p : Page) (o : Nat) : pageAddress p o < Config.pageCount * Config.pageSize := by
  have := p.isLt
  have := Nat.mod_lt o (show 0 < 512 by decide)
  simp only [pageAddress, Config.pageCount, Config.pageSize]
  omega

/-- Two bytes of pages are at one address only when they are the same byte of the same page. -/
theorem pageAddress_inj {p q : Page} {i j : Nat} (hi : i < 512) (hj : j < 512)
    (h : pageAddress p i = pageAddress q j) : p = q ∧ i = j := by
  simp only [pageAddress, Config.pageSize] at h
  refine ⟨Fin.ext ?_, ?_⟩ <;> omega

theorem wf_writeListByte {m : Memory} (ps : List Page) (o : Nat) (b : Byte)
    (h : Memory.wf Config.unwrittenPage (Config.pageCount * Config.pageSize) m = true) :
    Memory.wf Config.unwrittenPage (Config.pageCount * Config.pageSize) (writeListByte m ps o b) = true := by
  unfold writeListByte
  split
  · exact Memory.wf_write b (pageAddress_lt _ _) h
  · exact h

theorem wf_fillPage {m : Memory} (f : Nat → Byte) (p : Page) (n : Nat)
    (h : Memory.wf Config.unwrittenPage (Config.pageCount * Config.pageSize) m = true) :
    Memory.wf Config.unwrittenPage (Config.pageCount * Config.pageSize) (fillPage f p m n) = true := by
  induction n with
  | zero => exact h
  | succ k ih => exact Memory.wf_write (f k) (pageAddress_lt p k) ih

/-- A filled page holds the values it was filled with, and every other page what it held. -/
theorem pageByte_fillPage {m : Memory} (f : Nat → Byte) (p q : Page) {n o : Nat} (hn : n ≤ 512) (ho : o < 512)
    (h : Memory.wf Config.unwrittenPage (Config.pageCount * Config.pageSize) m = true) :
    pageByte (fillPage f p m n) q o = if q = p ∧ o < n then f o else pageByte m q o := by
  induction n with
  | zero => simp [fillPage]
  | succ k ih =>
    have hk := Memory.wf_iff.1 (wf_fillPage f p k h)
    have step : pageByte (fillPage f p m (k + 1)) q o
        = if pageAddress q o = pageAddress p k then f k else pageByte (fillPage f p m k) q o :=
      Memory.read_write (pageAddress p k) (f k) (pageAddress q o) hk.1
    rw [step, ih (by omega)]
    by_cases hpq : q = p ∧ o = k
    · obtain ⟨rfl, rfl⟩ := hpq
      simp
    · have hne : pageAddress q o ≠ pageAddress p k := fun e => hpq (pageAddress_inj ho (by omega) e)
      rw [if_neg hne]
      by_cases hq : q = p
      · have hok : o ≠ k := fun e => hpq ⟨hq, e⟩
        have hlt : (o < k) = (o < k + 1) := propext (by omega)
        simp [hq, hlt]
      · simp [hq]

/-- The memory after reset lists nothing and is in the canonical form. -/
theorem reset_memory_wf :
    Memory.wf Config.unwrittenPage (Config.pageCount * Config.pageSize) State.reset.pages = true := rfl

end Sys2Proof.Machine
end

