-- ==== Sys2Proof/Laws/Operands.lean ====
section
/-! SUPPORT. What the operand forms give: 16-bit values and their bytes, numbers below a limit, two-valued parameters, a move of the counter. -/

namespace Sys2Proof.Machine

open Sys2Proof.Safety

@[simp] theorem halfOf_hi_lo (h : Half) : halfOf (Half.hi h) (Half.lo h) = h := by
  apply BitVec.eq_of_toNat_eq
  simp only [halfOf, Half.hi, Half.lo, BitVec.toNat_append, BitVec.extractLsb'_toNat]
  have := h.isLt
  rw [← Nat.shiftLeft_add_eq_or_of_lt (Nat.mod_lt _ (by decide))]
  simp [Nat.shiftLeft_eq, Nat.shiftRight_eq_div_pow]; omega

@[simp] theorem hi_halfOf (a b : Byte) : Half.hi (halfOf a b) = a := by
  apply BitVec.eq_of_toNat_eq
  simp only [halfOf, Half.hi, BitVec.toNat_append, BitVec.extractLsb'_toNat]
  have := b.isLt; have := a.isLt
  rw [← Nat.shiftLeft_add_eq_or_of_lt b.isLt]
  simp [Nat.shiftLeft_eq, Nat.shiftRight_eq_div_pow]; omega

@[simp] theorem lo_halfOf (a b : Byte) : Half.lo (halfOf a b) = b := by
  apply BitVec.eq_of_toNat_eq
  simp only [halfOf, Half.lo, BitVec.toNat_append, BitVec.extractLsb'_toNat]
  have := b.isLt; have := a.isLt
  rw [← Nat.shiftLeft_add_eq_or_of_lt b.isLt]
  simp [Nat.shiftLeft_eq]; omega

/-- The value of a 16-bit parameter from its two bytes. -/
theorem toNat_halfOf (a b : Byte) : (halfOf a b).toNat = a.toNat * 256 + b.toNat := by
  simp only [halfOf, BitVec.toNat_append]
  rw [← Nat.shiftLeft_add_eq_or_of_lt b.isLt, Nat.shiftLeft_eq]

theorem indexBelow_of_lt {n : Nat} {b : Byte} (h : b.toNat < n) : indexBelow n b = some ⟨b.toNat, h⟩ := by
  simp [indexBelow, h]

theorem indexBelow_of_le {n : Nat} {b : Byte} (h : n ≤ b.toNat) : indexBelow n b = none := by
  simp [indexBelow, Nat.not_lt.2 h]

/-- A byte of value 0 or 1 is 00h or 01h. -/
theorem toNat_le_one_iff (b : Byte) : b.toNat ≤ 1 ↔ b = 0x00 ∨ b = 0x01 := by
  constructor
  · intro h
    rcases Nat.le_one_iff_eq_zero_or_eq_one.1 h with h | h
    · exact .inl (BitVec.eq_of_toNat_eq h)
    · exact .inr (BitVec.eq_of_toNat_eq h)
  · rintro (rfl | rfl) <;> decide

/-- A two-valued parameter: 01h is on, 00h off, any other byte none. -/
theorem flagOf_eq (b : Byte) : flagOf b = if b.toNat ≤ 1 then some (decide (b = 0x01)) else none := by
  by_cases h0 : b = 0x00
  · subst h0; rfl
  · by_cases h1 : b = 0x01
    · subst h1; rfl
    · rw [if_neg (fun h => ((toNat_le_one_iff b).1 h).elim h0 h1)]
      unfold flagOf
      rw [if_neg h0, if_neg h1]

/-- The model's move of the counter is the move of R175. -/
theorem moveCounter_eq (s : State) (n : Nat) : moveCounter s.port.descending n s.port.counter = movedCounter s n := by
  unfold moveCounter movedCounter; cases s.port.descending <;> rfl

/-- A moved counter is below the target's size. -/
theorem movedCounter_lt (s : State) {n : Nat} (h : 0 < n) : movedCounter s n < n := Nat.mod_lt _ h

theorem slotAt_of_lt (s : State) (b : Byte) (h : b.toNat < 8) : slotAt s b = s.slots[(⟨b.toNat, h⟩ : Fin 8)] := by
  simp [slotAt, h]

theorem slotAt_of_le (s : State) (b : Byte) (h : 8 ≤ b.toNat) : slotAt s b = none := by
  simp [slotAt, Vector.getElem?_eq_none h]

theorem alarmAt_of_lt (s : State) (b : Byte) (h : b.toNat < 8) : alarmAt s b = s.alarms[(⟨b.toNat, h⟩ : Fin 8)] := by
  simp [alarmAt, h]

/-- The staging list an OPEN transaction offers the STAGE target. -/
theorem openStaging_of_open {s : State} {t : Txn} (ht : s.txn = some t) (ho : Txn.isOpen t = true) :
    openStaging s = some t.staging := by
  unfold openStaging; rw [ht]; simp only
  unfold Txn.isOpen at ho; split at ho <;> simp_all

/-- Without an OPEN transaction the STAGE target is refused. -/
theorem openStaging_of_closed {s : State} (h : s.txn.all (fun t => !Txn.isOpen t) = true) : openStaging s = none := by
  unfold openStaging
  split
  · rename_i t ht; rw [ht] at h
    split <;> simp_all [Txn.isOpen]
  · rfl

end Sys2Proof.Machine
end

