-- ==== Sys2Proof/Laws/Store.lean ====
section
/-! SUPPORT. What the shared operations of the store do: the pool, the roll-back, the grant of a hold, a page of a walk; and turns one after another. -/

namespace Sys2Proof.Machine

open Sys2Proof.Safety

/-- A page is in the pool after a join exactly when it was there or is among the pages that join. -/
theorem mem_joinPool (ps : List Page) (s : State) (p : Page) : p ∈ (joinPool ps s).pool ↔ p ∈ s.pool ∨ p ∈ ps := by
  simp [joinPool, List.mem_filter, List.mem_finRange]

/-- The pool is in ascending order after a join. -/
theorem joinPool_ascending (ps : List Page) (s : State) : (joinPool ps s).pool.Pairwise (· < ·) :=
  List.Pairwise.filter _ (by decide)

/-- A grant (R39): HELD, an OPEN transaction suspended, HOLD 1 to both queues. -/
theorem grantHold_eq {s : State} (m : HoldMode) (h : s.power ≠ .off) :
    grantHold m s = granted m { s with
      txn := s.txn.map fun t => if Txn.isOpen t then { t with phase := .opened true } else t } := by
  obtain hx | ⟨x, hx⟩ : s.txn = none ∨ ∃ x, s.txn = some x := by cases s.txn <;> simp
  · simp [grantHold, granted, postBoth, postGame, postSystem, h, hx]
  · cases hp : x.phase <;>
      simp [grantHold, granted, postBoth, postGame, postSystem, h, hx, hp, Txn.isOpen]

theorem grantPending_of_pending {s : State} {m : HoldMode} (h : s.hold = .pending m) : grantPending s = grantHold m s := by
  simp [grantPending, h]

theorem grantPending_of_notHeld {s : State} (h : s.hold = .notHeld) : grantPending s = s := by simp [grantPending, h]

theorem grantPending_of_held {s : State} {m : HoldMode} (h : s.hold = .held m) : grantPending s = s := by simp [grantPending, h]

/-- A roll-back with COMMIT_FAIL (R35, R36): the transaction's fill or check walk is stopped, a VERIFY walk goes on. -/
theorem rollBackWithFail_eq {s : State} {t : Txn} (k : EndKind) (ht : s.txn = some t) (h : s.power ≠ .off) :
    rollBackWithFail k s = { rolledBack k t s with walk := s.walk.withoutTxn } := by
  simp [rollBackWithFail, rollBack, rolledBack, joinPool, postGame, ht, h]

theorem rollBackWithFail_of_none {s : State} (k : EndKind) (ht : s.txn = none) : rollBackWithFail k s = s := by
  simp [rollBackWithFail, ht]

/-- A page of the walk in flight is the page of that walk's kind (R8). -/
theorem walkPageOp_cases (s : State) :
    (s.walk = .none ∧ walkPageOp s = s)
    ∨ (∃ n d, s.walk = .fill n d ∧ walkPageOp s = fillWalkPage n d s)
    ∨ (∃ n d a b, s.walk = .check n d a b ∧ walkPageOp s = checkWalkPage n d a b s)
    ∨ (∃ n d a b, s.walk = .verify n d a b ∧ walkPageOp s = verifyWalkPage n d a b s) := by
  unfold walkPageOp
  cases hw : s.walk with
  | none => exact .inl ⟨rfl, rfl⟩
  | fill n d => exact .inr (.inl ⟨n, d, rfl, rfl⟩)
  | check n d a b => exact .inr (.inr (.inl ⟨n, d, a, b, rfl, rfl⟩))
  | verify n d a b => exact .inr (.inr (.inr ⟨n, d, a, b, rfl, rfl⟩))

/-- What one turn can do (R63, R64). -/
theorem turnDay_cases (s : State) :
    (0 < s.gameDay.debt ∧ turnDay s = ({ s with gameDay := { s.gameDay with debt := s.gameDay.debt - 1 } }, false))
    ∨ (s.gameDay.debt = 0 ∧ s.gameDay.day < 65535
      ∧ turnDay s = (postBoth .dayTurn 0 { s with gameDay := { s.gameDay with day := s.gameDay.day + 1 } }, true))
    ∨ (s.gameDay.debt = 0 ∧ 65535 ≤ s.gameDay.day ∧ turnDay s = (s, false)) := by
  unfold turnDay GameDayRecord.turn
  by_cases hd : 0 < s.gameDay.debt
  · exact .inl ⟨hd, by simp [hd]⟩
  · by_cases hg : s.gameDay.day < 65535
    · exact .inr (.inl ⟨by omega, hg, by simp [hd, hg]⟩)
    · exact .inr (.inr ⟨by omega, by omega, by simp [hd, hg]⟩)

/-- Game day and debt after `n` turns, and how many of them changed the game day (R57). -/
theorem applyTurns_gameDay (n : Nat) (s : State) (k : Nat) (h : s.gameDay.day ≤ 65535) :
    (applyTurns n (s, k)).1.gameDay = { s.gameDay with
      day := min (s.gameDay.day + (n - s.gameDay.debt)) 65535, debt := s.gameDay.debt - n }
    ∧ (applyTurns n (s, k)).2 = k + (min (s.gameDay.day + (n - s.gameDay.debt)) 65535 - s.gameDay.day) := by
  induction n generalizing s k with
  | zero =>
    have : min (s.gameDay.day + (0 - s.gameDay.debt)) 65535 = s.gameDay.day := by omega
    have : min s.gameDay.day 65535 = s.gameDay.day := by omega
    simp [applyTurns, this]
  | succ n ih =>
    have post (x : State) : (postBoth .dayTurn 0 x).gameDay = x.gameDay := by
      by_cases hx : x.power = .off <;> simp [postBoth, postSystem, postGame, hx]
    unfold applyTurns
    rcases turnDay_cases s with ⟨hd, e⟩ | ⟨hd, hg, e⟩ | ⟨hd, hg, e⟩ <;> simp only [e]
    · obtain ⟨e1, e2⟩ := ih { s with gameDay := { s.gameDay with debt := s.gameDay.debt - 1 } } k h
      have hn : n - (s.gameDay.debt - 1) = n + 1 - s.gameDay.debt := by omega
      have hm : s.gameDay.debt - 1 - n = s.gameDay.debt - (n + 1) := by omega
      simp only [Bool.false_eq_true, if_false]
      rw [e1, e2]
      simp [hn, hm]
    · obtain ⟨e1, e2⟩ := ih (postBoth .dayTurn 0 { s with gameDay := { s.gameDay with day := s.gameDay.day + 1 } })
        (k + 1) (by rw [post]; exact hg)
      rw [post] at e1 e2
      simp only [if_true]
      rw [e1, e2]
      refine ⟨?_, ?_⟩
      · simp [hd]; omega
      · simp [hd]; omega
    · obtain ⟨e1, e2⟩ := ih s k h
      simp only [Bool.false_eq_true, if_false]
      rw [e1, e2]
      refine ⟨?_, ?_⟩
      · simp [hd]; omega
      · simp [hd]; omega

end Sys2Proof.Machine
end

