-- ==== Sys2Proof/WellFormed.lean ====
section
/-! DEFINITION. Which terms of Instr are the row they name: a row about a byte holds a byte of that kind. -/

namespace Sys2Proof

/-- A command is well formed when its byte is of the kind its row names: UNKNOWN_COMMAND a code that is
not in the main bus column of the command table, UNKNOWN_REQUEST a byte that is no request,
COMMAND_PORT_WRITE a known code that needs parameters (R170, R180, R183), and an SLSEL_ASSERTION's bits
not more than the longest request (ALARM ARM: a request byte and ten parameters). Every other operand is a
byte as sent, which any value may be; exec gives every term its meaning, well formed or not. -/
def Instr.WellFormed (i : Instr) : Bool :=
  match i with
  | .unknownCommand b => busParameters (commandCode b) == none
  | .unknownRequest b => linkParameters b.toNat == none
  | .commandPortWrite b =>
    match busParameters (commandCode b) with
    | some n => n != 0
    | none => false
  | .slselAssertion bits => bits.length <= 8 * 11
  | _ => true

end Sys2Proof
end

