-- ==== Sys2Proof/Tests/Slice0.lean ====
section
/-! SUPPORT. Own tests: the refusals of WellFormed, one-step tests with values from the spec's tables and worked cases, and a witness for the hypotheses of every obligation that has some. -/

namespace Sys2Proof.Tests

open Sys2Proof.Machine Sys2Proof.Safety

/-! ### Well-formed terms -/

theorem test_wf_unknownCommand : Instr.WellFormed (.unknownCommand 0x50) = false ∧ Instr.WellFormed (.unknownCommand 0x17) = true := by
  decide
theorem test_wf_unknownRequest : Instr.WellFormed (.unknownRequest 0x62) = false ∧ Instr.WellFormed (.unknownRequest 0x01) = true := by
  decide
theorem test_wf_commandPortWrite : Instr.WellFormed (.commandPortWrite 0x03) = false ∧ Instr.WellFormed (.commandPortWrite 0x93) = true := by
  decide
theorem test_wf_slselAssertion : Instr.WellFormed (.slselAssertion (List.replicate 89 true)) = false
    ∧ Instr.WellFormed (.slselAssertion (List.replicate 88 true)) = true := by decide

/-! ### Small states -/

/-- Both queues empty and a frame begun on the side link. -/
def base : State :=
  { State.reset with gameEvents := .initial, systemEvents := .initial, side := { frame := .receiving [] [], slotRead := 0, sampled := [] } }

/-- The Calendar runs at a date and time, on a game day with a debt; the day start is 06:00. -/
def at_ (y mo d h mi se day debt : Nat) : State :=
  { base with
    calendar := .running
    clock := {
      now := { date := { year := y, month := mo, day := d }, hour := h, minute := mi, second := se }
      weekday := weekdayOf { year := y, month := mo, day := d } }
    gameDay := { day := day, debt := debt, startHour := 6, startMinute := 0, catchUp := 30 } }

/-- Slot 3 is LIVE with page 5, and the pool holds the other pages. -/
def saved : State :=
  { base with
    slots := base.slots.set 3 (some
      { damaged := false, pages := [5], generation := 4, stampDay := 7, stampDate := none, check := 0 })
    pool := (List.finRange 64).filter (· ≠ 5) }

/-- `saved` with a transaction of page 0 for slot 2 in the phase and the walk given. -/
def busy (phase : TxnPhase) (walk : WalkRecord) : State :=
  { saved with
    pool := saved.pool.filter (· ≠ 0), walk := walk
    txn := some { phase := phase, slot := 2, staging := [0], mode := .plain } }

/-- A voice playing rising saw (code 17), with a sample, a volume and a loop flag. -/
def saw (position : Nat) (sample : Int) (volume : Nat) (loop : Bool) : TableVoice :=
  { TableVoice.initial with
    state := .playing, code := 17, start := 28, loopPosition := 4, loop := loop, position := position
    divider := { d := 127, detune := 0, effective := 127, countdown := 0 }
    envelope := { Envelope.initial with volume := volume }, sample := BitVec.ofInt 8 sample }

/-- A looping voice at volume 1 that a DOWN envelope is about to stop. -/
def fading : TableVoice :=
  { saw 0 9 1 true with stopAtZero := true, envelope := { volume := 1, direction := .down, period := 2, count := 1023 } }

/-- The mix of the spec's first worked case. -/
def mix (rounding : Rounding) : State :=
  { base with
    voices := #v[saw 0 100 15 true, saw 0 (-128) 12 true, saw 0 127 15 true, .initial, .initial]
    voice5 := { StreamVoice.initial with envelope := { Envelope.initial with volume := 10 } }
    ring := { RingRecord.initial with state := .run .playing, held := 90 }
    mixer := { MixerRecord.initial with master := 41, rounding := rounding, enabled := true } }

/-- The pattern memory of the spec's pattern layout: pattern 1 with three steps. -/
def rumbling : State := { base with patternMem := [(32, 0x0C), (33, 3), (34, 0x14), (35, 2), (36, 4), (37, 1)] }

/-- The base state with alarm entry `e` as given. -/
def withAlarm (e : Fin 8) (a : AlarmEntry) (s : State) : State := { s with alarms := s.alarms.set e.val (some a) e.isLt }

/-- An ARMED entry of the game. -/
def armed (due : AlarmDue) (action : Option (Fin 4)) : AlarmEntry :=
  { state := .armed, owner := .game, due := due, action := action, missed := 0, late := false }

/-- A stream that plays, with `level` unplayed bytes and low mark 64, its countdown at 0. -/
def streaming (level : Nat) (run : StreamRun) : State :=
  { base with
    ringMem := [(0, 7), (1, 8)]
    voice5 := { StreamVoice.initial with divider := { Divider.initial with countdown := 0 } }
    ring := { RingRecord.initial with state := .run run, fill := level % 2048, level := level, lowMark := 64 } }

/-! ### Ports -/

theorem test_select_wave : (after (.select true 0x01 0 0x000A) base).port.counter = 10 := by decide
theorem test_select_unknownTarget : (after (.select true 0x07 0 0) base).port.outcome = .noSuch := by decide
theorem test_entry_range : (after (.entry true 0x02) base).gameEvents.queue = [{ kind := .refused, detail := 7, count := 1 }] := by
  decide
theorem test_statusClear : (after (.statusClear false) { base with port := { base.port with outcome := .incomplete, summary := true } }).port
    = .initial := by decide
/-- The worked sequence of chapter 10: INCOMPLETE in the outcome field with the summary set reads 1Bh. -/
theorem test_statusByte : statusByte { base with port := { base.port with outcome := .incomplete, summary := true } } = 0x1B := by
  decide
theorem test_dataWrite_wave : (after (.dataWrite 0x11) { base with port := { base.port with target := .wave, counter := 10 } }).waveMem
    = [(10, 0x11)] := by decide
theorem test_dataWrite_pattern_descending :
    (after (.dataWrite 0x11) { base with port := { base.port with target := .pattern, descending := true } }).port.counter = 127 := by
  decide
theorem test_dataRead_wave :
    let t := after .dataRead { base with waveMem := [(11, 0x22)], port := { base.port with target := .wave, counter := 10, latch := 0x11 } }
    t.busData = 0x11 ∧ t.port.latch = 0x22 := by decide
theorem test_dataRead_ring : (after .dataRead { base with port := { base.port with target := .ring } }).busData = 0xFF := by decide
/-- The worked sequence of chapter 10: ERASE in reporting form is discarded by the next command byte. -/
theorem test_commandPortWrite_abandons :
    (after (.commandPortWrite 0x14) { base with port := { base.port with command := some { byte := 0x93, received := [], needed := 1 } } }).port.outcome
      = .incomplete := by decide
theorem test_parameterByteWrite_takes :
    (after (.parameterByteWrite 0x01) { base with port := { base.port with command := some { byte := 0x02, received := [], needed := 1 } } }).port.descending
      = true := by decide
theorem test_unknownCommand : (after (.unknownCommand 0x97) base).port.outcome = .noSuch := by decide
theorem test_unknownRequest : (after (.unknownRequest 0x01) base).side.frame = .taken [0x06] := by decide
/-- The worked sequence of chapter 10: the store note COMMITTED, slot 0, generation 5. -/
theorem test_readRecord_note : (after (.readRecord 0x05 0x00) { base with note := .committed 0 5 }).side.frame = .taken [0, 1, 0, 0, 5] := by
  decide
set_option maxRecDepth 20000 in
/-- The same sequence bit by bit: five bytes of reply, and FFh beyond its end. -/
theorem test_slselAssertion_reply :
    (after (.slselAssertion ([0x62, 0x05, 0x00].flatMap bitsOf ++ List.replicate 48 false)) { base with note := .committed 0 5 }).side.sampled
      = [0x00, 0x01, 0x00, 0x00, 0x05, 0xFF].flatMap bitsOf := by decide
theorem test_readRecord_voice : (after (.readRecord 0x09 0x02) base).side.frame = .taken [4] := by decide
/-- R179: the first bit is the most significant one. -/
theorem test_slselAssertion_partial :
    (after (.slselAssertion [false, true, true, false, false, false, true, false, true]) base).side.frame = .receiving [0x62] [true] := by
  decide
theorem test_slselRelease_discards :
    after .slselRelease { base with side := { base.side with frame := .receiving [0x62, 0x05] [] } }
      = { base with side := { base.side with frame := .idle } } := by decide

/-! ### Save Store and Transaction Unit -/

theorem test_open_takesLowestPages : (after (.openTxn true 2 1 0) saved).txn.map Txn.staging = some [0] := by decide
theorem test_open_copyOfFree : (after (.openTxn true 2 1 1) saved).port.outcome = .state := by decide
theorem test_commit_seals : (after (.commit true) (busy (.opened false) .none)).walk = .check 2 0 0 0 := by decide
theorem test_abort_note : (after (.abort true) (busy (.opened false) .none)).note = .ended .aborted 2 := by decide
theorem test_erase_frees : (after (.erase true 3) saved).pool = List.finRange 64 := by decide
theorem test_erase_busy : (after (.erase true 3) (busy (.sealing 0) (.check 2 0 0 0))).port.outcome = .busy := by decide
theorem test_verify_free : (after (.verify true 1) saved).port.outcome = .state := by decide
theorem test_hold_game : (after (.hold (.game true) 0) base).port.outcome = .privilege := by decide
theorem test_hold_pending : (after (.hold .system 0) (busy (.sealing 0) (.check 2 0 0 0))).side.frame = .taken [12] := by decide
theorem test_release_resumes :
    (after (.release .system) { busy (.opened true) .none with hold := .held .keep }).txn.map Txn.phase = some (.opened false) := by
  decide
set_option maxRecDepth 20000 in
theorem test_slotRead_wraps :
    let t := after (.slotRead 3 0xFFFF 2) { saved with hold := .held .keep, pages := [(2560, 0x41)], side := { saved.side with slotRead := 511 } }
    t.side.frame = .taken [0, 0xFF, 0x41] ∧ t.side.slotRead = 1 := by decide
theorem test_slotRead_notHeld : (after (.slotRead 3 0 1) saved).side.frame = .taken [8] := by decide
set_option maxRecDepth 20000 in
theorem test_walkPage_fill :
    (after .walkPage (busy (.filling 0) (.fill 2 0))).gameEvents.queue = [{ kind := .fillDone, detail := 2, count := 1 }] := by decide
theorem test_fillWalkDone_otherWalk : after .fillWalkDone (busy (.sealing 0) (.check 2 0 0 0)) = busy (.sealing 0) (.check 2 0 0 0) := by
  decide
set_option maxRecDepth 20000 in
theorem test_checkWalkDone_note : (after .checkWalkDone (busy (.sealing 0) (.check 2 0 0 0))).note = .committed 2 0 := by decide
set_option maxRecDepth 20000 in
theorem test_verifyWalkDone_ends : (after .verifyWalkDone { saved with walk := .verify 3 0 0 0 }).walk = .none := by decide
/-- R7 by hand: bytes 1 and 2 give A = 3 and B = 1 + 3 = 4. -/
theorem test_check_twoBytes : checkOf [1, 2] = 0x0403 := by decide

/-! ### Calendar -/

/-- 2028-02-28 is in a leap year (R47). -/
theorem test_secondArrival_leapDay : (after .secondArrival (at_ 28 2 28 23 59 59 5 0)).clock.now.date = { year := 28, month := 2, day := 29 } := by
  decide
theorem test_secondArrival_wrap : (after .secondArrival (at_ 99 12 31 23 59 59 5 0)).clock = .initial := by decide
/-- The worked case of chapter 3: a forward setting to 2031-03-13 07:00:00 finds three turns, two of them take the debt. -/
theorem test_clockSet_forward :
    let t := after (.clockSet .system 31 3 13 7 0 0) (at_ 31 3 10 22 0 0 41 2)
    t.gameDay.day = 42 ∧ t.gameDay.debt = 0 := by decide
theorem test_clockSet_first : (after (.clockSet .system 31 3 13 7 0 0) base).calendar = .running := by decide
theorem test_dayStart_range : (after (.dayStart true 24 0) base).port.outcome = .range := by decide
theorem test_catchUpLimit_clamped : (after (.catchUpLimit true 256) base).gameDay.catchUp = 255 := by decide
theorem test_rebase : (after (.rebase true 7) (at_ 31 3 10 22 0 0 41 2)).gameDay.debt = 0 := by decide

/-! ### Alarm Table -/

theorem test_alarmArm_waits : ((after (.alarmArm (.game true) 7 2 0 0xFF 0 60 0 0 0 0) base).alarms[7]).map AlarmEntry.due
    = some (.countdown 60 none) := by decide
theorem test_alarmDisarm_privilege :
    (after (.alarmDisarm .system 0) (withAlarm 0 (armed (.game 9 0) none) base)).side.frame = .taken [4] := by decide
theorem test_countdownExpiry_repeats :
    ((after (.countdownExpiry 0) (withAlarm 0 (armed (.countdown 1 (some 60)) none) base)).alarms[0]).map AlarmEntry.due
      = some (.countdown 60 (some 60)) := by decide
/-- R87: an entry armed just before an expiry has lost no second. -/
theorem test_countdownExpiry_rearmed :
    let s := withAlarm 0 (armed (.countdown 60 none) none) base
    after (.countdownExpiry 0) s = s := by decide
/-- R50, R64, R80, R83: DAY_TURN, then the GAME entry, then the COUNTDOWN entry. -/
theorem test_secondArrival_posts :
    let s := withAlarm 7 (armed (.countdown 1 none) none) (withAlarm 0 (armed (.game 42 0) none) (at_ 31 3 10 5 59 59 41 0))
    (after .secondArrival s).gameEvents.queue.map (fun x => (x.kind, x.detail)) = [(.dayTurn, 0), (.alarm, 0), (.alarm, 7)] := by decide
/-- R57, R60, R86: the GAME entry before CLOCK_SET, the REAL entry after it. -/
theorem test_clockSet_posts :
    let due : DateTime := { date := { year := 31, month := 3, day := 11 }, hour := 7, minute := 0, second := 0 }
    let s := withAlarm 0 (armed (.real due .none) none) (withAlarm 1 (armed (.game 42 0) none) (at_ 31 3 10 22 0 0 41 0))
    (after (.clockSet .system 31 3 12 5 0 0) s).gameEvents.queue.map (fun x => (x.kind, x.detail))
      = [(.dayTurn, 0), (.alarm, 1), (.clockSet, 1), (.alarm, 0)] := by decide
/-- R84: a Thursday entry due at 2099-12-31 finds 2000-01-06. -/
theorem test_weekly_acrossTheWrap :
    let t : DateTime := { date := { year := 99, month := 12, day := 31 }, hour := 8, minute := 0, second := 0 }
    ((armed (.real t .weekly) none).fired .active t 0).due = .real { t with date := { year := 0, month := 1, day := 6 } } .weekly := by
  decide
/-- R85: every n steps past the game day; a due that would pass 65535 is kept, and the entry SPENT. -/
theorem test_game_every :
    ((armed (.game 205 7) none).fired .active base.clock.now 220).due = .game 226 7
      ∧ ((armed (.game 65535 7) none).fired .active base.clock.now 65535).state = .spent := by decide

/-! ### Voices, ring and mixer -/

theorem test_voiceSet_noSuch : (after (.voiceSet true 5 0 0 0 0) base).port.outcome = .noSuch := by decide
/-- The worked one-shot of chapter 5: start position 28 of the rising saw is sample 100. -/
theorem test_voiceStart_saw :
    ((after (.voiceStart true 0x04) { base with voices := base.voices.set 2 (saw 0 0 12 false) }).voices[2]).sample.toInt = 100 := by decide
theorem test_voiceStop : ((after (.voiceStop true 0x04) { base with voices := base.voices.set 2 (saw 0 9 12 false) }).voices[2]).sample = 0 := by
  decide
/-- The table of R93: 2040 and +20 give 2047, CLAMPED; 5 and -10 give 0. -/
theorem test_voicePitch_clamped :
    ((after (.voicePitch true 1 2040 20) base).voices[1]).divider.effective = 2047
      ∧ ((after (.voicePitch true 1 5 0xF6) base).voices[1]).divider.effective = 0 := by decide
theorem test_voiceLevel_range : (after (.voiceLevel true 0 15 3 0) base).port.outcome = .range := by decide
theorem test_waveLayout : (after (.waveLayout true 1) base).layout = .long := by decide
/-- The worked loop of chapter 5: from the last sample to position 4, sample -92. -/
theorem test_voiceStep_loops :
    ((after (.voiceStep 2) { base with voices := base.voices.set 2 (saw 31 124 12 true) }).voices[2]).sample.toInt = -92 := by decide
theorem test_voiceStep_ends :
    (after (.voiceStep 2) { base with voices := base.voices.set 2 (saw 31 124 12 false) }).gameEvents.queue
      = [{ kind := .voiceEnd, detail := 2, count := 1 }] := by decide
/-- R101: after VOICE START the step is not taken, since the countdown was reloaded. -/
theorem test_voiceStep_afterStart :
    let s := after (.voiceStart true 0x04) { base with voices := base.voices.set 2 (saw 0 0 12 false) }
    after (.voiceStep 2) s = s := by decide
/-- R106: the 32 samples of code 24. -/
theorem test_noise_code24 : (List.range 32).map (fun i => (waveSample base 24 i).toInt)
    = [96] ++ List.replicate 13 (-96) ++ [96, 96] ++ List.replicate 12 (-96) ++ [96, -96, 96, -96] := by decide
theorem test_envelopeMove_stops :
    ((after (.envelopeMove 0) { base with voices := base.voices.set 0 fading }).voices[0]).state = .stopped := by decide
theorem test_ringSet_clamped : (after (.ringSet true 32) base).ring.lowMark = 1984 := by decide
theorem test_ringFlush : (after (.ringFlush true) (streaming 100 .starved)).ring.state = .run .priming := by decide
theorem test_dataWrite_primes :
    (after (.dataWrite 9) { streaming 255 .priming with port := { PortRecord.initial with target := .ring } }).ring.state = .run .playing := by
  decide
theorem test_streamStep_low : (after .streamStep (streaming 64 .playing)).gameEvents.queue = [{ kind := .ringLow, detail := 5, count := 1 }] := by
  decide
theorem test_streamStep_starves : after .streamStep (streaming 0 .playing) =
    { streaming 0 .playing with
      voice5 := .initial
      ring := { (streaming 0 .playing).ring with state := .run .starved }
      gameEvents := { EventRecord.initial with queue := [{ kind := .starve, detail := 5, count := 1 }] } } := by decide
theorem test_mixSet_disables : (after (.mixSet true 41 0 0) { mix .floor with mixer := { (mix .floor).mixer with dac := 733 } }).mixer.dac = 512 := by
  decide
theorem test_clipClear : (after (.clipClear true) { base with mixer := { base.mixer with clip := true } }).mixer.clip = false := by decide
/-- The first worked mix of chapter 7: 733 in FLOOR and 734 in NEAREST; 728 on a LOW battery. -/
theorem test_frameArrival_mix : (after (.frameArrival 0) (mix .floor)).mixer.dac = 733
    ∧ (after (.frameArrival 0) (mix .nearest)).mixer.dac = 734
    ∧ (after (.frameArrival 0) { mix .floor with battery := .low }).mixer.dac = 728 := by decide

/-! ### Rumble -/

theorem test_rumbleDirect_cap : (after (.rumbleDirect true 15) { base with battery := .low }).rumble.level = 8 := by decide
theorem test_rumbleStop : (after (.rumbleStop true) { base with rumble := { base.rumble with mode := .direct 9, level := 9 } }).rumble.level = 0 := by
  decide
theorem test_rumbleLink : (after (.rumbleLink true 0) (mix .floor)).rumble.level = 15 := by decide
theorem test_rumblePattern_loads : (after (.rumblePattern true 1 2) rumbling).rumble.mode = .pattern 1 2 0 12 3 := by decide
theorem test_rumblePattern_empty : (after (.rumblePattern true 0 0) rumbling).gameEvents.queue = [{ kind := .rumbleEnd, detail := 0, count := 1 }] := by
  decide
theorem test_rumbleLimit_clamped : (after (.rumbleLimit true 0) base).rumble.runLimit = 128 := by decide
/-- The pattern layout of chapter 8: a level byte of 14h plays at 15. -/
theorem test_tick_nextStep :
    (after .tick { rumbling with rumble := { rumbling.rumble with mode := .pattern 1 2 0 12 1 } }).rumble.mode = .pattern 1 2 1 15 2 := by decide
theorem test_patternStepEnd_ends :
    (after .patternStepEnd { rumbling with rumble := { rumbling.rumble with mode := .pattern 1 1 2 4 1 } }).rumble.mode = .off := by decide
theorem test_restBegin :
    (after .restBegin { base with rumble := { base.rumble with mode := .direct 9, level := 9, runCounter := 1023 } }).rumble.rest = some 128 := by
  decide
theorem test_restEnd :
    (after .restEnd { base with rumble := { base.rumble with mode := .direct 9, runCounter := 1024, rest := some 1 } }).rumble.level = 9 := by
  decide
theorem test_motorPeriod :
    (after .motorPeriod { base with motorFrame := 14, rumble := { base.rumble with mode := .direct 9, level := 9 } }).motor = 9 := by decide
/-- R143: the fifteenth frame of a period starts the next one at the level standing then. -/
theorem test_frameArrival_motor :
    let t := after (.frameArrival 0) { base with motorFrame := 14, rumble := { base.rumble with mode := .direct 9, level := 9 } }
    t.motor = 9 ∧ t.motorFrame = 0 ∧ motorHigh t = true := by decide
/-- R142: a refused rumble command is taken, so a LINKED driver follows its voice. -/
theorem test_rumblePattern_refused :
    (after (.rumblePattern true 4 0) { mix .floor with rumble := { RumbleRecord.initial with mode := .linked 0 } }).rumble.level = 15 := by decide

/-! ### Events, supply and reset -/

theorem test_post_coalesces :
    ((EventRecord.initial.post .voiceEnd 2).post .voiceEnd 2).queue = [{ kind := .voiceEnd, detail := 2, count := 2 }] := by decide
theorem test_eventAck : (after (.eventAck (.game true)) State.reset).gameEvents.queue = [] := by decide
theorem test_eventAckLost : (after (.eventAckLost .system) { base with systemEvents := { EventRecord.initial with lost := 5 } }).systemEvents.lost = 0 := by
  decide
theorem test_eventMask : (after (.eventMask (.game true) 0xFF 0xFB 0xFF) base).gameEvents.mask = 0x3FBFF := by decide
theorem test_lineEnable : (after (.lineEnable (.game true) 1) { base with gameEvents := EventRecord.initial.post .clip 0 }).gameEvents.line = true := by
  decide
theorem test_silence : ((after (.silence .system) (mix .floor)).voices[0]).state = .stopped := by decide
theorem test_battery_cut :
    (after (.battery .system 2) { base with rumble := { base.rumble with mode := .direct 9, level := 9 } }).gameEvents.queue
      = [{ kind := .battery, detail := 2, count := 1 }, { kind := .rumbleCut, detail := 1, count := 1 }] := by decide
theorem test_powerMode_sleep : (after (.powerMode .system 1) (mix .floor)).ring.state = .paused .playing := by decide
theorem test_mainSupplyFall_note : (after .mainSupplyFall (at_ 31 3 16 8 0 0 205 0)).wake.powerDownDay = some 205 := by decide
/-- The worked spell of chapter 11: 208 - 205 days elapsed, entries 0 and 3 missed 3 and 15 times. -/
theorem test_mainSupplyRise_note :
    wakeBytes (after .mainSupplyRise
      (withAlarm 3 { armed (.countdown 5 (some 5)) none with missed := 15 } (withAlarm 0 { armed (.game 9 1) none with missed := 3 }
        { at_ 31 3 19 12 0 0 208 0 with
          power := .off
          wake := { WakeNote.afterReset with powerDownDay := some 205, powerDownDate := some { year := 31, month := 3, day := 16 } } }))).wake
      = [0x00, 0x00, 0x03, 0x00, 0xCD, 0x1F, 0x03, 0x10, 0x02, 3, 0, 0, 15, 0, 0, 0, 0] := by decide
theorem test_busReset_keepsSystemQueue : (after .busReset State.reset).systemEvents = State.reset.systemEvents
    ∧ (after .busReset State.reset).gameEvents = .initial := by decide
theorem test_resetRelease : (after .resetRelease { base with resetPin := true }).resetPin = false := by decide
theorem test_retentionLoss : (after .retentionLoss { base with power := .off }).retention = .lost
    ∧ (after .retentionLoss base).retention = .kept := by decide
theorem test_idle_clock :
    let s : State := { base with voices := base.voices.set 2 (saw 31 124 12 false) }
    (match step s with | .next u => u | _ => s) = after (.voiceStep 2) s := by decide

/-! ### Witnesses: states and operands that meet the hypotheses of the obligations, clause by clause -/

theorem witness_IdleStepIsOneEngineClock :
    let s : State := { streaming 64 .playing with voices := #v[saw 31 124 12 false, saw 0 9 12 true, .initial, .initial, .initial] }
    s.pending = [] ∧ base.pending = [] ∧ s.ring.state.running = true ∧ base.ring.state.running = false := by decide

theorem witness_CommandsAndBytesAgree :
    (Instr.entry true 0x01).busBytes = some (0x82, [0x01]) ∧ (Instr.readRecord 0x05 0x00).linkBytes = some [0x62, 0x05, 0x00]
    ∧ (Instr.commit false).busBytes = some (0x11, []) ∧ (Instr.release .system).linkBytes = some [0x16] := by decide

theorem witness_BusCommandIsItsBytes : (Instr.entry true 0x01).busBytes = some (0x82, [0x01]) := by decide

theorem witness_RequestIsItsBytes : (Instr.readRecord 0x05 0x00).linkBytes = some [0x62, 0x05, 0x00] ∧ base.power ≠ .off
    ∧ State.reset.side.frame = .idle := by decide

theorem witness_DeadPortsTakeNothing :
    ({ base with resetPin := true }.resetPin = true ∧ isBusStrobe .dataRead = true)
    ∧ ({ base with power := .off }.power = .off ∧ isBusStrobe (.entry true 1) = true ∧ isLinkArrival (.slselAssertion []) = true) := by decide

theorem witness_NewCommandAbandonsPending :
    let s : State := { base with port := { base.port with command := some { byte := 0x93, received := [], needed := 1 } } }
    s.power ≠ .off ∧ s.resetPin = false ∧ s.port.command = some { byte := 0x93, received := [], needed := 1 }
      ∧ isCommandByte (.eventAck (.game false)) = true ∧ isCommandByte (.unknownCommand 0x17) = true := by decide

theorem witness_RefusalChangesNothingElse :
    (busReady base ∧ (Instr.entry true 0x02).busBytes = some (0x82, [0x02]) ∧ (busEffect (.entry true 0x02) base).2.isRefusal = true)
    ∧ (linkReady base ∧ (Instr.hold .system 0x02).linkBytes = some [0x15, 0x02]
      ∧ (linkEffect (.hold .system 0x02) base).2.1.isRefusal = true)
    ∧ ((Instr.rumbleLink true 0x06).busBytes = some (0xC2, [0x06]) ∧ (busEffect (.rumbleLink true 0x06) base).2.isRefusal = true) := by decide

theorem witness_CodesOfTheOtherMaster :
    busReady base ∧ linkReady base ∧ linkParameters 0x01 = none ∧ linkParameters 0x63 = none
      ∧ busParameters (commandCode 0x17) = none ∧ busParameters (commandCode 0xFF) = none := by decide

theorem witness_ParametersGatherAndTake :
    (busReady base ∧ busParameters (commandCode 0x82) = some 1)
    ∧ (let s : State := { base with port := { base.port with command := some { byte := 0x81, received := [0x01, 0x00], needed := 4 } } }
       s.power ≠ .off ∧ s.resetPin = false ∧ s.port.command = some { byte := 0x81, received := [0x01, 0x00], needed := 4 })
    ∧ (Instr.entry true 0x01).busBytes = some (0x82, [0x01]) ∧ [0x01] ≠ ([] : List Byte) := by decide

theorem witness_FramesBeginAndEnd : base.power ≠ .off ∧ [true].length < 8 ∧ linkParameters 0x62 = some 2 ∧ [(0x05 : Byte)].length < 2
    ∧ linkParameters 0x24 = some 10 ∧ (List.replicate 9 (0 : Byte)).length < 10
    ∧ (Instr.readRecord 0x05 0x00).linkBytes = some [0x62, 0x05, 0x00]
    ∧ [true].length < 8 * (replyOf (after (.slselAssertion ([0x16].flatMap bitsOf)) base)).length := by decide

theorem witness_SelectResults :
    busReady base ∧ storeHeld { base with hold := .held .keep } = true
    ∧ (storeHeld base = false ∧ base.txn.all (fun t => !Txn.isOpen t) = true)
    ∧ (busy (.opened false) .none).txn.any Txn.isOpen = true
    ∧ (slotAt base 0x07 = none ∧ slotAt base 0x08 = none)
    ∧ ((slotAt saved 0x03).isSome = true ∧ busReady saved ∧ storeHeld saved = false)
    ∧ (recordOf (Half.hi 0x0D00) = some .mixer ∧ (recordCopy .game .mixer 0 base).isSome = true)
    ∧ 14 ≤ (Half.hi 0x0E00).toNat ∧ ((Half.hi 0x0200).toNat = 2 ∧ 8 ≤ (0x08 : Byte).toNat)
    ∧ ((Half.hi 0x0900).toNat = 9 ∧ 6 ≤ (0x06 : Byte).toNat) := by decide

/-- A port with a target selected, on `base` or another state. -/
def aimed (t : Target) (s : State) : State := { s with port := { s.port with target := t } }

theorem witness_DataWriteResults :
    (busReady (aimed .none base) ∧ MemoriesSound (aimed .none base))
    ∧ (busReady (aimed (.slot 3) saved) ∧ MemoriesSound (aimed (.slot 3) saved))
    ∧ (busReady (aimed (.info .power 0 [0, 0, 0]) base) ∧ busReady (aimed .wave base) ∧ busReady (aimed .pattern base)
      ∧ busReady (aimed .ring base))
    ∧ (busReady (aimed .stage { base with hold := .held .keep }) ∧ storeHeld { base with hold := .held .keep } = true)
    ∧ (busReady (aimed .stage base) ∧ storeHeld base = false ∧ base.txn.all (fun t => !Txn.isOpen t) = true)
    ∧ (let s := aimed .stage (busy (.opened false) .none)
       busReady s ∧ MemoriesSound s ∧ storeHeld s = false
        ∧ s.txn.any (fun x => Txn.isOpen x && decide (1 ≤ x.staging.length)) = true) := by decide

theorem witness_DataReadResults :
    (base.power ≠ .off ∧ base.resetPin = false)
    ∧ ((aimed (.slot 3) saved).slots[(3 : SlotNo)].isSome = true ∧ storeHeld saved = false)
    ∧ ((aimed (.slot 2) saved).slots[(2 : SlotNo)] = none ∧ storeHeld { saved with hold := .held .keep } = true)
    ∧ (base.txn.all (fun t => !Txn.isOpen t) = true ∧ (busy (.opened false) .none).txn.any Txn.isOpen = true) := by decide

theorem witness_ReadRecordResults :
    linkReady base ∧ 14 ≤ (0x0E : Byte).toNat ∧ ((0x02 : Byte).toNat = 2 ∧ 8 ≤ (0x08 : Byte).toNat)
    ∧ (0x0A : Byte).toNat = 10 ∧ ((0x0D : Byte).toNat < 14 ∧ recordOf 0x0D = some .mixer)
    ∧ (recordOf 0x07 = some .alarm ∧ (recordCopy .system .alarm 0x07 base).isSome = true)
    ∧ (0x07 : Byte).toNat < 8 ∧ (0x04 : Byte).toNat = (4 : Fin 5).val ∧ base.power ≠ .off := by decide

theorem witness_CommitAndAbortResults :
    (busReady base ∧ storeHeld base = false ∧ walkInFlight base = false ∧ base.txn = none)
    ∧ storeHeld { base with hold := .held .drop } = true
    ∧ walkInFlight { saved with walk := .verify 3 0 0 0 } = true
    ∧ (let s := busy (.opened false) .none
       busReady s ∧ storeHeld s = false ∧ walkInFlight s = false ∧ s.txn.any Txn.isOpen = true ∧ walkSound s = true)
    ∧ (let s := busy (.sealing 0) (.check 2 0 0 0)
       busReady s ∧ storeHeld s = false ∧ s.txn.any Txn.isSealing = true)
    ∧ (let s := busy (.filling 0) (.fill 2 0)
       busReady s ∧ storeHeld s = false ∧ s.txn.map Txn.phase = some (.filling 0) ∧ walkSound s = true ∧ s.hold = .notHeld)
    ∧ (let s := { busy (.filling 0) (.fill 2 0) with hold := .pending .keep }
       busReady s ∧ storeHeld s = false ∧ s.txn.map Txn.phase = some (.filling 0) ∧ walkSound s = true) := by decide

/-- For EraseAndVerifyResults. -/
theorem witness_EraseAndVerifyResults : busReady saved ∧ (slotAt saved 0x03).isSome = true := by decide

theorem witness_HoldAndReleaseResults :
    (linkReady base ∧ 1 < (0x02 : Byte).toNat ∧ walkSound base = true ∧ base.hold = .notHeld ∧ base.txn = none)
    ∧ (let s := { busy (.opened true) .none with hold := .held .keep }
       linkReady s ∧ walkSound s = true ∧ storeHeld s = true ∧ s.txn.all Txn.isOpen = true)
    ∧ (let s := busy (.sealing 0) (.check 2 0 0 0)
       linkReady s ∧ walkSound s = true ∧ s.hold = .notHeld ∧ s.txn.any Txn.isSealing = true)
    ∧ (let s := busy (.opened false) (.verify 3 0 0 0)
       linkReady s ∧ walkSound s = true ∧ s.hold = .notHeld ∧ s.txn.any Txn.isOpen = true)
    ∧ (let s := busy (.filling 0) (.fill 2 0)
       linkReady s ∧ walkSound s = true ∧ s.hold = .notHeld ∧ s.txn.any (fun t => !Txn.isOpen t && !Txn.isSealing t) = true)
    ∧ (let s := { saved with walk := .verify 3 0 0 0, hold := .pending .drop }
       linkReady s ∧ walkSound s = true)
    ∧ (let s := { saved with walk := .verify 3 0 0 0, hold := .pending .keep }
       linkReady s ∧ walkSound s = true ∧ s.txn.all Txn.isSealing = true)
    ∧ (let s := { busy (.opened false) (.verify 3 0 0 0) with hold := .pending .keep }
       linkReady s ∧ walkSound s = true ∧ s.txn.any Txn.isOpen = true)
    ∧ (let s := { busy (.filling 0) (.fill 2 0) with hold := .pending .keep }
       linkReady s ∧ walkSound s = true ∧ s.txn.any (fun t => !Txn.isOpen t && !Txn.isSealing t) = true) := by decide

theorem witness_SlotReadResult :
    (linkReady saved ∧ storeHeld saved = false)
    ∧ (linkReady { saved with hold := .held .keep } ∧ (slotAt { saved with hold := .held .keep } 0x03).isSome = true
      ∧ storeHeld { saved with hold := .held .keep } = true ∧ 1 ≤ (0x20 : Byte).toNat ∧ (0x20 : Byte).toNat ≤ 32) := by decide

theorem witness_WalkPageResults :
    (let s := busy (.filling 0) (.fill 2 0)
     s.power ≠ .off ∧ walkSound s = true ∧ MemoriesSound s ∧ s.txn.isSome = true ∧ s.walk = .fill 2 0)
    ∧ (let s := { busy (.sealing 0) (.check 2 0 7 9) with hold := .pending .drop }
       s.power ≠ .off ∧ walkSound s = true ∧ s.walk = .check 2 0 7 9 ∧ s.txn.any (fun x => (x.staging[0]?).isSome) = true)
    ∧ (let s := { busy (.opened false) (.verify 3 0 7 9) with hold := .pending .keep }
       s.power ≠ .off ∧ s.walk = .verify 3 0 7 9 ∧ s.slots[(3 : SlotNo)].any (fun y => (y.pages[0]?).isSome) = true) := by decide

theorem witness_WalkDoneIsItsPages :
    (walkSound (busy (.filling 0) (.fill 2 0)) = true ∧ (busy (.filling 0) (.fill 2 0)).walk = .fill 2 0)
    ∧ (walkSound (busy (.sealing 0) (.check 2 0 0 0)) = true ∧ (busy (.sealing 0) (.check 2 0 0 0)).walk = .check 2 0 0 0)
    ∧ (walkSound { saved with walk := .verify 3 0 0 0 } = true) ∧ (walkSound base = true ∧ base.walk = .none) := by decide

theorem witness_CommitSwitchesTheSlot :
    let s := busy (.opened false) .none
    busReady s ∧ s.hold = .notHeld ∧ s.walk = .none
      ∧ s.txn.any (fun x => Txn.isOpen x && decide (1 ≤ x.staging.length)) = true := by decide

theorem witness_VerifyComparesTheCheck :
    busReady saved ∧ saved.hold = .notHeld ∧ saved.walk = .none
      ∧ saved.slots[(3 : SlotNo)].any (fun d => decide (1 ≤ d.pages.length)) = true := by decide

set_option maxRecDepth 20000 in
theorem witness_PagesAndMemoriesStaySound_pages : PagesPartitioned saved ∧ PagesPartitioned (busy (.filling 0) (.fill 2 0)) := by decide

theorem witness_SlotPagesAreNeverWritten : MemoriesSound saved ∧ saved.retention = .kept ∧ (Instr.walkPage ≠ .mainSupplyRise)
    ∧ saved.slots[(3 : SlotNo)].any (fun d => decide (d.pages = [5])) = true := by decide

theorem witness_MastersKeepToTheirRights :
    (storeHeld { saved with hold := .held .keep } = true ∧ isBusStrobe (.dataWrite 0x11) = true)
    ∧ isBusStrobe (.erase true 0x03) = true ∧ isLinkArrival (.silence .system) = true := by decide

theorem witness_TurnRule :
    0 < (at_ 31 3 10 22 0 0 41 2).gameDay.debt
    ∧ ((at_ 31 3 10 22 0 0 65534 0).gameDay.debt = 0 ∧ (at_ 31 3 10 22 0 0 65534 0).gameDay.day < 65535)
    ∧ ((at_ 31 3 10 22 0 0 65535 0).gameDay.debt = 0 ∧ (at_ 31 3 10 22 0 0 65535 0).gameDay.day = 65535)
    ∧ takesRebase .secondArrival base = false ∧ takesRebase (.dataWrite 0x01) base = false
    ∧ takesRebase (.parameterByteWrite 0x01)
        { base with port := { base.port with command := some { byte := 0x23, received := [], needed := 2 } } } = false := by decide

theorem witness_CalendarArithmetic :
    Date.valid { year := 99, month := 12, day := 31 } = true ∧ Date.valid { year := 28, month := 2, day := 29 } = true
      ∧ 36524 < 36525 ∧ 21600 < 86400 := by decide

theorem witness_SecondArrivalResults :
    (({ base with power := .off, retention := .lost } : State).retention = .lost)
    ∧ (base.retention = .kept ∧ base.calendar = .invalid)
    ∧ (CalendarSound (at_ 99 12 31 23 59 59 5 0) ∧ (at_ 99 12 31 23 59 59 5 0).calendar = .running) := by decide

theorem witness_ClockSetResults :
    let s := at_ 31 3 10 22 0 0 41 2
    let t (y mo d : Nat) : DateTime := { date := { year := y, month := mo, day := d }, hour := 22, minute := 0, second := 0 }
    linkReady s ∧ linkReady base ∧ s.calendar = .running ∧ base.calendar = .invalid ∧ s.gameDay.day ≤ 65535
      ∧ (t 31 2 29).valid = false ∧ (t 31 3 10).valid = true ∧ instant (t 31 3 10) = instant s.clock.now
      ∧ instant (t 31 3 9) < instant s.clock.now ∧ instant s.clock.now < instant (t 31 3 11) := by decide

/-- The outcome of ALARM ARM's checks for entry `e` and the due bytes given, without action. -/
def armOutcome (m : Master) (e k b1 b2 b3 : Byte) (s : State) : OutcomeCode :=
  firstOutcome ((decide (8 ≤ e.toNat), .noSuch) :: ((alarmAt s e).any (fun a => decide (a.owner ≠ m)), .privilege)
    :: armChecks k 0 0xFF b1 b2 b3 0 0 0)

theorem witness_AlarmCommandResults :
    let s := at_ 31 3 10 22 0 0 41 2
    busReady s ∧ linkReady s
    ∧ (armOutcome .game 8 1 0 41 0 s = .noSuch ∧ armOutcome .game 7 1 0 42 0 s = .ok ∧ armOutcome .system 7 0 31 3 10 s = .ok)
    ∧ (42 > s.gameDay.day ∧ 41 ≤ s.gameDay.day)
    ∧ (armOutcome .system 0 1 0 42 0 (withAlarm 0 (armed (.game 9 0) none) s) = .privilege)
    ∧ (sentDue 1 0 0 41 0 0 0 0 = .game 41 0) := by decide

/-- For CalendarAndAlarmsStaySound and DueListIsTheArmedInOrder. -/
theorem witness_CalendarAndAlarmsStaySound :
    let s := withAlarm 7 (armed (.countdown 1 none) (some 3)) (withAlarm 0 (armed (.game 42 0) none) (at_ 31 3 10 22 0 0 41 2))
    CalendarSound s ∧ AlarmsSound s ∧ dueList s = [0, 7] := by decide

theorem witness_FireReschedules :
    (at_ 31 3 10 22 0 0 41 2).clock.now.valid = true ∧ 205 ≤ 65535 ∧ 65535 ≤ 65535 := by decide

theorem witness_CountdownExpiryFires :
    let s := withAlarm 0 (armed (.countdown 1 (some 60)) (some 1)) rumbling
    s.retention = .kept ∧ s.alarms[(1 : Fin 8)] = none
    ∧ (s.alarms[(0 : Fin 8)].any (fun a => decide (a.state = .armed ∧ a.due = .countdown 1 (some 60))) = true)
    ∧ ({ s with power := .off, retention := .lost } : State).retention = .lost
    ∧ ((withAlarm 0 { armed (.countdown 0 none) none with state := .spent } base).alarms[(0 : Fin 8)].any
        (fun a => decide (a.state = .spent)) = true)
    ∧ ((withAlarm 0 (armed (.countdown 2 none) none) base).alarms[(0 : Fin 8)].map AlarmEntry.due = some (.countdown 2 none))
    ∧ ((withAlarm 0 (armed (.game 9 0) none) base).alarms[(0 : Fin 8)].map AlarmEntry.due = some (.game 9 0)) := by decide

theorem witness_VoiceStepAndEnvelopeMove :
    let s : State := { base with voices := base.voices.set 0 fading }
    s.power ≠ .off ∧ busReady s ∧ (0x01 : Byte).getLsbD 0 = true ∧ 0 < s.voices[(0 : Fin 5)].divider.effective ∧ (0x02 : Byte).toNat ≤ 2
      ∧ (s.voices[(0 : Fin 5)].state = .playing ∧ s.voices[(0 : Fin 5)].divider.countdown = 0)
      ∧ (s.voices[(0 : Fin 5)].envelope.active = true ∧ moveIsDue s.voices[(0 : Fin 5)].envelope = true) := by decide

theorem witness_WaveformsOfTheCodes : (7 : Nat) ≤ 7 ∧ base.layout = .short ∧ ({ base with layout := .long } : State).layout = .long
    ∧ 8 ≤ (8 : Fin 32).val ∧ 24 ≤ (31 : Fin 32).val ∧ ([(0 : Int), 23, 46, 67, 85, 100, 111, 118, 120][8]?).isSome = true := by decide

theorem witness_RumbleLevelsAndPin : (15 : Nat) ≤ 15 ∧ base.power ≠ .off ∧ base.motorFrame = 0 := by decide

theorem witness_RingIsAQueue_write :
    let s := aimed .ring (streaming 2047 .playing)
    busReady s ∧ s.port.target = .ring ∧ RingSound s ∧ MemoriesSound s ∧ s.ring.level < 2048 := by decide

theorem witness_RingIsAQueue_full :
    let s := aimed .ring (streaming 2048 .playing)
    busReady s ∧ s.port.target = .ring ∧ RingSound s ∧ MemoriesSound s ∧ s.ring.level = 2048 := by decide

theorem witness_RingIsAQueue_step :
    base.power ≠ .off ∧ base.ring.state.running = false ∧ (streaming 0 .starved).ring.state = .run .starved
    ∧ (streaming 0 .starved).voice5.divider.countdown = 0 ∧ 0 < base.voice5.divider.countdown
    ∧ ((streaming 0 .playing).ring.state = .run .playing ∧ (streaming 0 .playing).ring.level = 0)
    ∧ ((unplayed (streaming 2 .playing)).head? = some 7 ∧ (streaming 2 .playing).ring.state = .run .playing) := by decide

theorem witness_RingIsAQueue_sound : RingSound { streaming 2 .playing with ring := { (streaming 2 .playing).ring with lowMark := 0 } } := by
  decide

theorem witness_FrameArrivalResult : (mix .nearest).power ≠ .off := by decide

theorem witness_RumbleTickResults :
    ({ base with power := .sleep } : State).power ≠ .active ∧ rumbling.power = .active
    ∧ (rumbling.rumble.rest = none ∧ rumbling.rumble.level = 0)
    ∧ (let s : State := { base with rumble := { base.rumble with mode := .direct 9, level := 9 } }
       s.rumble.rest = none ∧ 0 < s.rumble.level)
    ∧ ({ base with rumble := { base.rumble with rest := some 1 } } : State).rumble.rest = some 1 := by decide

theorem witness_PostsAndAlertLines :
    let e := EventRecord.initial.post .clip 0
    let full : EventRecord := { e with queue := (List.range 8).map fun i => { kind := .alarm, detail := BitVec.ofNat 8 i, count := 1 } }
    e.queue.any (fun x => decide (x.kind = .clip ∧ x.detail = 0)) = true
    ∧ (e.queue.any (fun x => decide (x.kind = .starve ∧ x.detail = 5)) = false ∧ e.queue.length < 8)
    ∧ (full.queue.any (fun x => decide (x.kind = .starve ∧ x.detail = 5)) = false ∧ 8 ≤ full.queue.length)
    ∧ base.power ≠ .off := by decide

/-- For the statements whose only hypotheses are a ready port: EntryAndStatusClearResults, OpenResult, GameDayCommandResults,
VoiceCommandResults, VoiceStartAndStopResults, RingAndMixerCommandResults, RumbleCommandResults, EventCommandResults and
SystemRequestResults. -/
theorem witness_PortsReady : busReady base ∧ linkReady base ∧ (0x00 : Byte).toNat ≤ 1 ∧ 1 < (0x02 : Byte).toNat := by decide

theorem witness_SupplyResults :
    (({ base with power := .off } : State).power = .off ∧ ({ base with power := .off } : State).retention = .kept)
    ∧ (base.power ≠ .off ∧ base.txn = none) ∧ ((busy (.opened false) .none).txn.isSome = true)
    ∧ ((after .mainSupplyFall base).wake.powerDownDay = some 0 ∧ (after .mainSupplyFall base).power = .off)
    ∧ (let s := after .retentionLoss (after .mainSupplyFall base)
       s.power = .off ∧ s.retention = .lost) := by decide

theorem witness_BusResetResult :
    (base.power ≠ .off ∧ base.txn = none ∧ base.walk = .none) ∧ ({ base with power := .off } : State).power = .off
    ∧ (let s : State := { saved with walk := .verify 3 0 0 0 }
       s.power ≠ .off ∧ s.txn = none)
    ∧ (walkSound (busy (.sealing 0) (.check 2 0 0 0)) = true ∧ (busy (.sealing 0) (.check 2 0 0 0)).txn.any Txn.isSealing = true)
    ∧ (walkSound (busy (.filling 0) (.fill 2 0)) = true
      ∧ (busy (.filling 0) (.fill 2 0)).txn.any (fun t => !Txn.isSealing t) = true) := by decide

theorem witness_StoreStaysSound : StoreSound saved ∧ StoreSound (busy (.filling 0) (.fill 2 0)) := by decide
theorem witness_PagesAndMemoriesStaySound_memories : MemoriesSound (streaming 64 .playing) ∧ RingSound (streaming 64 .playing) := by decide
theorem witness_VoicesRingAndMixerStaySound_voices : VoicesSound { base with voices := base.voices.set 0 (saw 31 124 15 true) } := by decide
theorem witness_VoicesRingAndMixerStaySound_mixer : RingSound (mix .nearest) ∧ MixerSound (mix .nearest) := by decide
theorem witness_RumbleAndEventsStaySound : RumbleSound rumbling ∧ EventsSound State.reset := by decide
theorem witness_PortsAndSupplyStaySound : PortsSound base ∧ SupplySound base := by decide
theorem witness_PortsAndSupplyStaySound_off : PortsSound (after .mainSupplyFall base) ∧ SupplySound (after .mainSupplyFall base) := by
  decide
/-- A step of a state with a command in front answers a next state, so no premise 'step answers next' is empty. -/
theorem witness_aStep : (match step { base with pending := [.commit true] } with | .next t => decide (t.pending = []) | _ => false) = true := by
  decide

end Sys2Proof.Tests
end

section
/-! The records of the store and the four memories as one view of the state, and the operations that leave that view as it is. -/

namespace Sys2Proof.Machine

/-- What the store's rules speak of: the Save Store, the Transaction Unit, the four memories, and
whether the part is OFF. -/
structure Stored where
  off : Bool
  pages : Memory
  slots : Vector (Option SlotData) 8
  pool : List Page
  walk : WalkRecord
  txn : Option Txn
  hold : HoldRecord
  waveMem : Memory
  ringMem : Memory
  patternMem : Memory

/-- The view of a state. -/
def stored (s : State) : Stored :=
  { off := decide (s.power = .off), pages := s.pages, slots := s.slots, pool := s.pool, walk := s.walk, txn := s.txn
    hold := s.hold, waveMem := s.waveMem, ringMem := s.ringMem, patternMem := s.patternMem }

theorem stored_eq_iff (s t : State) : stored t = stored s ↔
    (t.power = .off ↔ s.power = .off) ∧ t.pages = s.pages ∧ t.slots = s.slots ∧ t.pool = s.pool ∧ t.walk = s.walk
      ∧ t.txn = s.txn ∧ t.hold = s.hold ∧ t.waveMem = s.waveMem ∧ t.ringMem = s.ringMem
      ∧ t.patternMem = s.patternMem := by
  simp [stored]

/-! ### Posts and reports -/

@[simp] theorem stored_postGame (k : EventKind) (d : Byte) (s : State) : stored (postGame k d s) = stored s := by
  unfold postGame; split <;> rfl

@[simp] theorem stored_postSystem (k : EventKind) (d : Byte) (s : State) : stored (postSystem k d s) = stored s := by
  unfold postSystem; split <;> rfl

@[simp] theorem stored_postBoth (k : EventKind) (d : Byte) (s : State) : stored (postBoth k d s) = stored s := by
  simp [postBoth]

@[simp] theorem stored_postTo (m : Master) (k : EventKind) (d : Byte) (s : State) :
    stored (postTo m k d s) = stored s := by
  cases m <;> simp [postTo]

@[simp] theorem stored_withPort (p : PortRecord) (s : State) : stored { s with port := p } = stored s := rfl
@[simp] theorem stored_withSide (l : SideLink) (s : State) : stored { s with side := l } = stored s := rfl
@[simp] theorem stored_withBusData (b : Byte) (s : State) : stored { s with busData := b } = stored s := rfl
@[simp] theorem stored_withGameDay (g : GameDayRecord) (s : State) : stored { s with gameDay := g } = stored s := rfl
@[simp] theorem stored_withSetting (x : SettingRecord) (s : State) : stored { s with setting := x } = stored s := rfl
@[simp] theorem stored_withAlarms (a : Vector (Option AlarmEntry) 8) (s : State) :
    stored { s with alarms := a } = stored s := rfl
@[simp] theorem stored_withMixer (m : MixerRecord) (s : State) : stored { s with mixer := m } = stored s := rfl
@[simp] theorem stored_withRumble (r : RumbleRecord) (s : State) : stored { s with rumble := r } = stored s := rfl
@[simp] theorem stored_withRing (r : RingRecord) (s : State) : stored { s with ring := r } = stored s := rfl
@[simp] theorem stored_withVoice5 (v : StreamVoice) (s : State) : stored { s with voice5 := v } = stored s := rfl
@[simp] theorem stored_withLayout (l : Layout) (s : State) : stored { s with layout := l } = stored s := rfl

@[simp] theorem stored_noteRefusal (o : OutcomeCode) (s : State) : stored (noteRefusal o s) = stored s := by
  simp [noteRefusal]

@[simp] theorem stored_refuseAccess (o : OutcomeCode) (s : State) : stored (refuseAccess o s) = stored s :=
  stored_noteRefusal o s

@[simp] theorem stored_refuseRead (o : OutcomeCode) (s : State) : stored (refuseRead o s) = stored s := by
  simp [refuseRead]

/-- A report adds to port and game queue alone (R172). -/
@[simp] theorem stored_report (r : Bool) (code : Byte) (x : Result) : stored (report r code x) = stored x.1 := by
  unfold report
  cases r <;> cases x.2.isRefusal <;> by_cases h : x.2 = .clamped <;> simp [h]

@[simp] theorem stored_abandonCommand (s : State) : stored (abandonCommand s) = stored s := by
  unfold abandonCommand; split <;> simp

/-- A reply adds to frame and system queue alone (R179, R180). -/
@[simp] theorem stored_takeLink (op : State → LinkResult) (s : State) : stored (takeLink op s) = stored (op s).1 := by
  simp only [takeLink]; split <;> simp

@[simp] theorem stored_assertSelect (s : State) : stored (assertSelect s) = stored s := by
  unfold assertSelect; split <;> rfl

@[simp] theorem stored_releaseSelect (s : State) : stored (releaseSelect s) = stored s := rfl

@[simp] theorem stored_readOut (s : State) : stored (readOut s) = stored s := by
  unfold readOut; split <;> rfl

/-- A fold of operations that keep the view keeps it. -/
theorem stored_foldl {α : Type} {f : State → α → State} (h : ∀ s a, stored (f s a) = stored s) (l : List α) (s : State) :
    stored (l.foldl f s) = stored s := by
  induction l generalizing s with
  | nil => rfl
  | cons a l ih => exact (ih (f s a)).trans (h s a)

/-! ### Voices, stream and Mixer -/

@[simp] theorem stored_setVoice (v : Fin 5) (x : TableVoice) (s : State) : stored (setVoice v x s) = stored s := rfl
@[simp] theorem stored_mapVoices (f : Fin 5 → TableVoice → TableVoice) (s : State) :
    stored (mapVoices f s) = stored s := rfl

@[simp] theorem stored_voiceExpiry (v : Fin 5) (s : State) : stored (voiceExpiry v s) = stored s := by
  simp only [voiceExpiry, stepVoice]
  repeat' split
  all_goals simp

@[simp] theorem stored_setEnvelope (v : Fin 6) (e : Envelope) (s : State) : stored (setEnvelope v e s) = stored s := by
  unfold setEnvelope; split <;> simp

@[simp] theorem stored_moveEnvelope (v : Fin 6) (s : State) : stored (moveEnvelope v s) = stored s := by
  simp only [moveEnvelope, stopAtZero]
  repeat' split
  all_goals simp

@[simp] theorem stored_envelopeFrame (v : Fin 6) (s : State) : stored (envelopeFrame v s) = stored s := by
  simp only [envelopeFrame]
  repeat' split
  all_goals simp

@[simp] theorem stored_envelopeExpiry (v : Fin 6) (s : State) : stored (envelopeExpiry v s) = stored s := by
  simp only [envelopeExpiry]
  repeat' split
  all_goals simp

@[simp] theorem stored_streamStep (s : State) : stored (streamStep s) = stored s := by
  simp only [streamStep]
  repeat' split
  all_goals simp

@[simp] theorem stored_streamExpiry (s : State) : stored (streamExpiry s) = stored s := by
  unfold streamExpiry; split <;> simp

@[simp] theorem stored_voiceClock (s : State) (v : Fin 5) : stored (voiceClock s v) = stored s := by
  simp only [voiceClock]
  repeat' split
  all_goals simp

@[simp] theorem stored_streamClock (s : State) : stored (streamClock s) = stored s := by
  simp only [streamClock]
  repeat' split
  all_goals simp

@[simp] theorem stored_engineClock (s : State) : stored (engineClock s) = stored s := by
  simp [engineClock, stored_foldl stored_voiceClock]

@[simp] theorem stored_mixFrame (s : State) : stored (mixFrame s) = stored s := by
  simp only [mixFrame]
  repeat' split
  all_goals simp

@[simp] theorem stored_envelopeFrames (w : BitVec 6) (b : Bool) (s : State) :
    stored (envelopeFrames w b s) = stored s :=
  stored_foldl (fun s v => by split <;> simp) _ s

@[simp] theorem stored_countFrame (s : State) : stored (countFrame s) = stored s := rfl

@[simp] theorem stored_frameArrivalOp (w : BitVec 6) (s : State) : stored (frameArrivalOp w s) = stored s := by
  unfold frameArrivalOp; split <;> simp

@[simp] theorem stored_voiceSetOp (v c b l f : Byte) (s : State) : stored (voiceSetOp v c b l f s).1 = stored s := by
  simp only [voiceSetOp, refuse]; repeat' split
  all_goals simp

@[simp] theorem stored_voicePitchOp (v : Byte) (d : Half) (t : Byte) (s : State) :
    stored (voicePitchOp v d t s).1 = stored s := by
  simp only [voicePitchOp, refuse]; repeat' split
  all_goals simp

@[simp] theorem stored_voiceLevelOp (v l d e : Byte) (s : State) : stored (voiceLevelOp v l d e s).1 = stored s := by
  simp only [voiceLevelOp, refuse]; repeat' split
  all_goals simp

@[simp] theorem stored_waveLayoutOp (l : Byte) (s : State) : stored (waveLayoutOp l s).1 = stored s := by
  unfold waveLayoutOp; split <;> simp [refuse]

@[simp] theorem stored_voiceStartOp (m : Byte) (s : State) : stored (voiceStartOp m s).1 = stored s := by
  simp only [voiceStartOp, startVoices]; split <;> rfl

@[simp] theorem stored_voiceStopOp (m : Byte) (s : State) : stored (voiceStopOp m s).1 = stored s := by
  simp only [voiceStopOp, stopVoices]; split <;> rfl

@[simp] theorem stored_ringFlushOp (s : State) : stored (ringFlushOp s).1 = stored s := rfl
@[simp] theorem stored_ringSetOp (m : Byte) (s : State) : stored (ringSetOp m s).1 = stored s := rfl
@[simp] theorem stored_silenceOp (s : State) : stored (silenceOp s).1 = stored s := rfl
@[simp] theorem stored_clipClearOp (s : State) : stored (clipClearOp s).1 = stored s := rfl

@[simp] theorem stored_mixSetOp (v m e : Byte) (s : State) : stored (mixSetOp v m e s).1 = stored s := by
  unfold mixSetOp; split <;> simp [refuse]

/-! ### Rumble Driver -/

@[simp] theorem stored_formLevel (s : State) : stored (formLevel s) = stored s := rfl

@[simp] theorem stored_endPattern (p : Fin 4) (s : State) : stored (endPattern p s) = stored s := by simp [endPattern]

@[simp] theorem stored_loadStep (p : Fin 4) (n k : Nat) (s : State) : stored (loadStep p n k s) = stored s := rfl

@[simp] theorem stored_loadFirst (p : Fin 4) (n : Nat) (s : State) : stored (loadFirst p n s) = stored s := by
  unfold loadFirst; split <;> simp

@[simp] theorem stored_startPattern (p : Fin 4) (n : Nat) (s : State) : stored (startPattern p n s) = stored s := by
  simp [startPattern]

@[simp] theorem stored_nextStep (p : Fin 4) (n k : Nat) (s : State) : stored (nextStep p n k s) = stored s := by
  unfold nextStep
  repeat' split
  all_goals simp

@[simp] theorem stored_sequencePattern (s : State) : stored (sequencePattern s) = stored s := by
  simp only [sequencePattern]; repeat' split
  all_goals simp

@[simp] theorem stored_beginRest (c : Nat) (s : State) : stored (beginRest c s) = stored s := by simp [beginRest]

@[simp] theorem stored_endRest (s : State) : stored (endRest s) = stored s := rfl

@[simp] theorem stored_runAccounting (s : State) : stored (runAccounting s) = stored s := by
  simp only [runAccounting]; repeat' split
  all_goals simp

@[simp] theorem stored_tickOp (s : State) : stored (tickOp s) = stored s := by
  unfold tickOp; split <;> simp

@[simp] theorem stored_patternStepEndOp (s : State) : stored (patternStepEndOp s) = stored s := by
  unfold patternStepEndOp; repeat' split
  all_goals simp

@[simp] theorem stored_restBeginOp (s : State) : stored (restBeginOp s) = stored s := by
  unfold restBeginOp; split <;> simp

@[simp] theorem stored_restEndOp (s : State) : stored (restEndOp s) = stored s := by
  unfold restEndOp; repeat' split
  all_goals simp

@[simp] theorem stored_motorPeriodOp (s : State) : stored (motorPeriodOp s) = stored s := by
  unfold motorPeriodOp; split <;> rfl

@[simp] theorem stored_rumbleDirectOp (l : Byte) (s : State) : stored (rumbleDirectOp l s).1 = stored s := rfl
@[simp] theorem stored_rumbleStopOp (s : State) : stored (rumbleStopOp s).1 = stored s := rfl
@[simp] theorem stored_rumbleLimitOp (l : Byte) (s : State) : stored (rumbleLimitOp l s).1 = stored s := rfl

@[simp] theorem stored_rumbleLinkOp (v : Byte) (s : State) : stored (rumbleLinkOp v s).1 = stored s := by
  unfold rumbleLinkOp; split <;> rfl

@[simp] theorem stored_rumblePatternOp (p n : Byte) (s : State) : stored (rumblePatternOp p n s).1 = stored s := by
  unfold rumblePatternOp; repeat' split
  all_goals simp [refuseRumble, refuse]

/-! ### Alarm Table and Calendar -/

@[simp] theorem stored_setAlarm (e : Fin 8) (x : Option AlarmEntry) (s : State) :
    stored (setAlarm e x s) = stored s := rfl

@[simp] theorem stored_fireAlarm (s : State) (e : Fin 8) : stored (fireAlarm s e) = stored s := by
  rw [fireAlarm_eq]; rfl

@[simp] theorem stored_fireAll (es : List (Fin 8)) (s : State) : stored (fireAll es s) = stored s := by
  rw [fireAll_eq]; rfl

@[simp] theorem stored_takeGameDay (s : State) : stored (takeGameDay s) = stored s := stored_fireAll _ s

@[simp] theorem stored_countdownExpiryOp (e : Fin 8) (s : State) : stored (countdownExpiryOp e s) = stored s := by
  unfold countdownExpiryOp; repeat' split
  all_goals simp

@[simp] theorem stored_alarmArmOp (m : Master) (e k c a b1 b2 b3 b4 b5 b6 : Byte) (s : State) :
    stored (alarmArmOp m e k c a b1 b2 b3 b4 b5 b6 s).1 = stored s := by
  simp only [alarmArmOp, refuse, armEntry]; repeat' split
  all_goals simp

@[simp] theorem stored_alarmDisarmOp (m : Master) (e : Byte) (s : State) :
    stored (alarmDisarmOp m e s).1 = stored s := by
  unfold alarmDisarmOp; repeat' split
  all_goals simp [refuse]

@[simp] theorem stored_turnDay (s : State) : stored (turnDay s).1 = stored s := by
  simp only [turnDay]; split <;> simp

@[simp] theorem stored_arrivalTurn (s : State) : stored (arrivalTurn s) = stored s := by
  simp only [arrivalTurn]
  repeat' split
  all_goals simp

@[simp] theorem stored_secondArrivalOp (s : State) : stored (secondArrivalOp s) = stored s := by
  unfold secondArrivalOp calendarSecond takeSecond takeTime
  split
  · rfl
  · simp only [stored_fireAll, stored_withAlarms]
    split
    · rfl
    · exact (stored_fireAll _ _).trans (stored_arrivalTurn _)

@[simp] theorem stored_applyTurns (n : Nat) (r : State × Nat) : stored (applyTurns n r).1 = stored r.1 := by
  induction n generalizing r with
  | zero => rfl
  | succ k ih => exact (ih _).trans (stored_turnDay r.1)

@[simp] theorem stored_setClock (t : DateTime) (s : State) : stored (setClock t s) = stored s := rfl

@[simp] theorem stored_firstSetting (t : DateTime) (s : State) : stored (firstSetting t s) = stored s := by
  simp only [firstSetting, stored_fireAll, stored_postGame]; rfl

@[simp] theorem stored_forwardSetting (t : DateTime) (s : State) : stored (forwardSetting t s) = stored s := by
  simp only [forwardSetting, stored_fireAll, stored_postGame, stored_withSetting]; split <;> simp

@[simp] theorem stored_backwardSetting (t : DateTime) (s : State) : stored (backwardSetting t s) = stored s := by
  simp only [backwardSetting, stored_postGame]; rfl

@[simp] theorem stored_sameSetting (s : State) : stored (sameSetting s) = stored s := by simp [sameSetting]

@[simp] theorem stored_clockSetOp (y mo d h mi sec : Byte) (s : State) :
    stored (clockSetOp y mo d h mi sec s).1 = stored s := by
  simp only [clockSetOp, refuse]; repeat' split
  all_goals simp

@[simp] theorem stored_dayStartOp (h m : Byte) (s : State) : stored (dayStartOp h m s).1 = stored s := by
  unfold dayStartOp; split <;> rfl

@[simp] theorem stored_catchUpLimitOp (l : Half) (s : State) : stored (catchUpLimitOp l s).1 = stored s := rfl
@[simp] theorem stored_rebaseOp (d : Half) (s : State) : stored (rebaseOp d s).1 = stored s := rfl

/-! ### Ports, records and supply -/

@[simp] theorem stored_selectTarget (t : Target) (c : Nat) (l : Byte) (s : State) :
    stored (selectTarget t c l s) = stored s := rfl

@[simp] theorem stored_selectOp (t x : Byte) (a : Half) (s : State) : stored (selectOp t x a s).1 = stored s := by
  simp only [selectOp, selectStage, selectSlot, selectInfo, refuse]; repeat' split
  all_goals simp

@[simp] theorem stored_entryOp (d : Byte) (s : State) : stored (entryOp d s).1 = stored s := by
  unfold entryOp; split <;> rfl

@[simp] theorem stored_statusClearOp (s : State) : stored (statusClearOp s).1 = stored s := rfl

@[simp] theorem stored_latchRead (n : Nat) (f : Nat → Byte) (s : State) : stored (latchRead n f s) = stored s := rfl

@[simp] theorem stored_targetRead (s : State) : stored (targetRead s) = stored s := by
  unfold targetRead stageRead slotPortRead; repeat' split
  all_goals simp

@[simp] theorem stored_modifyEvents (m : Master) (f : EventRecord → EventRecord) (s : State) :
    stored (modifyEvents m f s) = stored s := by
  cases m <;> rfl

@[simp] theorem stored_eventAckOp (m : Master) (s : State) : stored (eventAckOp m s).1 = stored s :=
  stored_modifyEvents m _ s

@[simp] theorem stored_eventAckLostOp (m : Master) (s : State) : stored (eventAckLostOp m s).1 = stored s :=
  stored_modifyEvents m _ s

@[simp] theorem stored_eventMaskOp (m : Master) (a b c : Byte) (s : State) : stored (eventMaskOp m a b c s).1 = stored s :=
  stored_modifyEvents m _ s

@[simp] theorem stored_lineEnableOp (m : Master) (e : Byte) (s : State) : stored (lineEnableOp m e s).1 = stored s := by
  unfold lineEnableOp; split <;> simp [refuse]

@[simp] theorem stored_slotReadOp (n : Byte) (o : Half) (c : Byte) (s : State) :
    stored (slotReadOp n o c s).1 = stored s := by
  simp only [slotReadOp]; repeat' split
  all_goals simp

@[simp] theorem stored_readRecordOp (r x : Byte) (s : State) : stored (readRecordOp r x s).1 = stored s := by
  unfold readRecordOp; repeat' split
  all_goals rfl

@[simp] theorem stored_batteryOp (b : Byte) (s : State) : stored (batteryOp b s).1 = stored s := by
  simp only [batteryOp, changeBattery, refuse]; repeat' split
  all_goals simp
  all_goals rfl

/-- A change between ACTIVE and SLEEP is none of the store's (R186). -/
@[simp] theorem stored_powerModeOp (m : Byte) (s : State) : stored (powerModeOp m s).1 = stored s := by
  have sleep (h : s.power = .active) : stored (enterSleep s) = stored s := by
    have pause (t : State) : stored (pauseStream t) = stored t := by unfold pauseStream; split <;> simp
    refine (pause _).trans ?_
    simp [pauseVoices, stored, h]
  have active (h : s.power = .sleep) : stored (enterActive s) = stored s := by
    have resume (t : State) : stored (resumeStream t) = stored t := by unfold resumeStream; split <;> simp
    refine (resume _).trans ?_
    simp [resumeVoices, stored, h]
  unfold powerModeOp
  repeat' split
  · rfl
  · rename_i h; exact sleep h
  · rfl
  · rename_i h; exact active h
  · rfl

@[simp] theorem stored_resetReleaseOp (s : State) : stored (resetReleaseOp s) = stored s := rfl

@[simp] theorem stored_retentionLossOp (s : State) : stored (retentionLossOp s) = stored s := by
  unfold retentionLossOp; split <;> rfl

end Sys2Proof.Machine
end

section
/-! What a command can do to the store and the memories, once for all commands: requests one after another, pages of a
walk, a data-port write, a bus reset, a rise or a fall. -/

namespace Sys2Proof.Safety

open Sys2Proof.Machine

/-- One thing a request does by itself: a command of the store while the main supply is present, or anything that
leaves store and memories as they are. -/
inductive Request : State → State → Prop
  | other {s t : State} (h : stored t = stored s) : Request s t
  | openTxn {s : State} (hp : s.power ≠ .off) (n z m : Byte) : Request s (openOp n z m s).1
  | commit {s : State} (hp : s.power ≠ .off) : Request s (commitOp s).1
  | abort {s : State} (hp : s.power ≠ .off) : Request s (abortOp s).1
  | erase {s : State} (hp : s.power ≠ .off) (n : Byte) : Request s (eraseOp n s).1
  | verify {s : State} (hp : s.power ≠ .off) (n : Byte) : Request s (verifyOp n s).1
  | hold {s : State} (hp : s.power ≠ .off) (m : Byte) : Request s (holdOp m s).1
  | release {s : State} (hp : s.power ≠ .off) : Request s (releaseOp s).1

/-- Requests one after another. -/
inductive Requests (s : State) : State → Prop
  | refl : Requests s s
  | tail {t u : State} (h : Requests s t) (r : Request t u) : Requests s u

theorem Requests.single {s t : State} (r : Request s t) : Requests s t := .tail .refl r

theorem Requests.trans {s t u : State} (h : Requests s t) (hu : Requests t u) : Requests s u := by
  induction hu with
  | refl => exact h
  | tail _ r ih => exact ih.tail r

theorem Requests.other {s t : State} (h : stored t = stored s) : Requests s t := .single (.other h)

theorem Requests.thenOther {s t u : State} (h : Requests s t) (hu : stored u = stored t) : Requests s u :=
  h.tail (.other hu)

/-- Whether the part is OFF is seen in the view. -/
theorem on_of_stored {s t : State} (h : stored t = stored s) (hp : s.power ≠ .off) : t.power ≠ .off :=
  fun ht => hp (((stored_eq_iff s t).1 h).1.1 ht)

/-- What a command makes of store and memories. -/
inductive Effect : Instr → State → State → Prop
  | requests {c : Instr} {s t : State} (h : Requests s t) : Effect c s t
  | walk {c : Instr} {s : State} (k : Nat) : Effect c s (walkPages k s)
  | dataWrite {c : Instr} {s : State} (b : Byte) : Effect c s (targetWrite b s)
  | busReset {s : State} : Effect .busReset s (busResetOp s)
  | rise {s : State} : Effect .mainSupplyRise s (supplyRise s)
  | fall {s : State} : Effect .mainSupplyFall s (supplyFall s)

/-! ### The main bus -/

/-- The effect of a main-bus command: one of the five store commands, or nothing of the store's. -/
theorem busEffect_request (i : Instr) {s : State} (hp : s.power ≠ .off) : Request s (busEffect i s).1 := by
  cases i with
  | openTxn r n z m => exact .openTxn hp n z m
  | commit r => exact .commit hp
  | abort r => exact .abort hp
  | erase r n => exact .erase hp n
  | verify r n => exact .verify hp n
  | _ => exact .other (by simp [busEffect, privileged, refuse])

/-- A strobe is taken only with the main supply present (R190). -/
theorem power_of_busAlive {s : State} (h : busAlive s = true) : s.power ≠ .off := by
  simp only [busAlive, Bool.and_eq_true, decide_eq_true_eq] at h
  exact h.1

theorem runBus_requests (r : Bool) (code : Byte) (i : Instr) (s : State) :
    Requests s (runBus r code (busEffect i) s) := by
  unfold runBus
  split
  · rename_i ha
    have hp := on_of_stored (stored_abandonCommand s) (power_of_busAlive ha)
    exact .thenOther ((Requests.other (stored_abandonCommand s)).tail (busEffect_request i hp)) (stored_report ..)
  · exact .refl

/-- The row of a main-bus command runs that command's effect at the port. -/
theorem exec_of_busBytes (i : Instr) (s : State) (h : i.busBytes.isSome = true) :
    ∃ r code, exec i s = .next (runBus r code (busEffect i) s) := by
  cases i with
  | hold m | release m | clockSet m | alarmArm m | alarmDisarm m | silence m | eventAck m | eventAckLost m | eventMask m
  | lineEnable m | battery m | powerMode m =>
    cases m
    · exact ⟨_, _, rfl⟩
    · cases h
  | slotRead | readRecord | unknownCommand | unknownRequest | dataWrite | dataRead | slselRelease | mainSupplyRise
  | mainSupplyFall | busReset | resetRelease | retentionLoss | secondArrival | frameArrival | tick | voiceStep
  | streamStep | envelopeMove | countdownExpiry | walkPage | fillWalkDone | checkWalkDone | verifyWalkDone
  | patternStepEnd | restBegin | restEnd | motorPeriod | commandPortWrite | parameterByteWrite | slselAssertion => cases h
  | _ => exact ⟨_, _, rfl⟩

theorem takeBus_requests (b : Byte) (ps : List Byte) {s : State} (hp : s.power ≠ .off) :
    Requests s (takeBus b ps s) := by
  unfold takeBus
  split
  · exact .thenOther (.single (busEffect_request _ hp)) (stored_report ..)
  · exact .refl

theorem commandWrite_requests (b : Byte) (s : State) : Requests s (commandWrite b s) := by
  simp only [commandWrite]
  split
  · rename_i ha
    have hp := on_of_stored (stored_abandonCommand s) (power_of_busAlive ha)
    have abandon := Requests.other (stored_abandonCommand s)
    split
    · exact .thenOther abandon (stored_report ..)
    · exact abandon.trans (takeBus_requests b [] hp)
    · exact .thenOther abandon (stored_withPort ..)
  · exact .refl

/-- A write to the data port (R171, R176): with a command pending a parameter, else data for the target. -/
theorem dataPortWrite_effect (c : Instr) (b : Byte) (s : State) : Effect c s (dataPortWrite b s) := by
  simp only [dataPortWrite]
  split
  · rename_i ha
    split
    · exact .dataWrite b
    · split
      · exact .requests (.other (stored_withPort ..))
      · exact .requests ((Requests.other (stored_withPort ..)).trans (takeBus_requests _ _ (power_of_busAlive ha)))
  · exact .requests .refl

@[simp] theorem stored_dataPortRead (s : State) : stored (dataPortRead s) = stored s := by
  unfold dataPortRead; split <;> simp

/-! ### The side link -/

/-- The effect of a request of the side link: HOLD, RELEASE, or nothing of the store's. -/
theorem linkEffect_request (i : Instr) {s : State} (hp : s.power ≠ .off) : Request s (linkEffect i s).1 := by
  cases i with
  | hold _ m => exact .hold hp m
  | release => exact .release hp
  | _ => exact .other (by simp [linkEffect, noData])

theorem takeLink_requests (i : Instr) {s : State} (hp : s.power ≠ .off) : Requests s (takeLink (linkEffect i) s) :=
  .thenOther (.single (linkEffect_request i hp)) (stored_takeLink ..)

theorem takeFrame_requests (bytes : List Byte) {s : State} (hp : s.power ≠ .off) : Requests s (takeFrame bytes s) := by
  unfold takeFrame
  split
  · exact takeLink_requests _ hp
  · exact .other (stored_takeLink ..)

theorem clockBit_requests (s : State) (b : Bool) : Requests s (clockBit s b) := by
  unfold clockBit
  split
  · exact .refl
  · rename_i hp
    have frame (bytes) : Requests s (takeFrame bytes { s with side.frame := .receiving [] [] }) :=
      (Requests.other (stored_withSide ..)).trans (takeFrame_requests bytes hp)
    split
    · exact .refl
    · exact .other (stored_withSide ..)
    · split
      · exact .other (stored_withSide ..)
      · unfold receiveBytes
        split
        · exact frame _
        · split
          · exact .other (stored_withSide ..)
          · exact frame _

theorem clockBits_requests (bits : List Bool) (s : State) : Requests s (clockBits bits s) := by
  induction bits generalizing s with
  | nil => exact .refl
  | cons b bits ih => exact (clockBit_requests s b).trans (ih _)

theorem runLink_requests (bytes : List Byte) (i : Instr) (s : State) : Requests s (runLink bytes (linkEffect i) s) := by
  unfold runLink
  split
  · exact .refl
  · rename_i hp
    split
    · have hp' := on_of_stored (stored_assertSelect s) hp
      exact .thenOther ((Requests.other (stored_assertSelect s)).trans (takeLink_requests i hp')) (by simp)
    · exact takeLink_requests i hp
    · exact clockBits_requests _ s

/-- The row of a side-link request runs that request's effect in its frame. -/
theorem exec_of_linkBytes (i : Instr) (s : State) (bytes : List Byte) (h : i.linkBytes = some bytes) :
    exec i s = .next (runLink bytes (linkEffect i) s) := by
  cases i with
  | hold m | release m | clockSet m | alarmArm m | alarmDisarm m | silence m | eventAck m | eventAckLost m | eventMask m
  | lineEnable m | battery m | powerMode m =>
    cases m
    · cases h
    · cases h; rfl
  | slotRead | readRecord => cases h; rfl
  | _ => cases h

theorem receiveRequest_requests (b : Byte) (s : State) : Requests s (receiveRequest b s) := by
  unfold receiveRequest
  split
  · exact .refl
  · split
    · exact .thenOther ((Requests.other (stored_assertSelect s)).trans (clockBits_requests (bitsOf b ++ []) _)) (by simp [clockIn])
    · exact clockBits_requests _ s

/-! ### Every command -/

theorem fillWalkDoneOp_pages (s : State) : ∃ k, fillWalkDoneOp s = walkPages k s := by
  unfold fillWalkDoneOp; split
  · exact ⟨_, rfl⟩
  · exact ⟨0, rfl⟩

theorem checkWalkDoneOp_pages (s : State) : ∃ k, checkWalkDoneOp s = walkPages k s := by
  unfold checkWalkDoneOp; split
  · exact ⟨_, rfl⟩
  · exact ⟨0, rfl⟩

theorem verifyWalkDoneOp_pages (s : State) : ∃ k, verifyWalkDoneOp s = walkPages k s := by
  unfold verifyWalkDoneOp; split
  · exact ⟨_, rfl⟩
  · exact ⟨0, rfl⟩

theorem Effect.other {c : Instr} {s t : State} (h : stored t = stored s) : Effect c s t := .requests (.other h)

theorem Effect.ofPages {c : Instr} {s t : State} (h : ∃ k, t = walkPages k s) : Effect c s t := by
  obtain ⟨k, rfl⟩ := h
  exact .walk k

/-- The effect of a row that is a byte, an edge or an arrival. -/
theorem arrival_effect (c : Instr) (s : State) (hb : c.busBytes = none) (hl : c.linkBytes = none) :
    ∃ t, exec c s = .next t ∧ Effect c s t := by
  cases c with
  | unknownCommand b => exact ⟨_, rfl, .requests (commandWrite_requests b s)⟩
  | commandPortWrite b => exact ⟨_, rfl, .requests (commandWrite_requests b s)⟩
  | unknownRequest b => exact ⟨_, rfl, .requests (receiveRequest_requests b s)⟩
  | slselAssertion bits =>
    exact ⟨_, rfl, .requests ((Requests.other (stored_assertSelect s)).trans (clockBits_requests bits _))⟩
  | parameterByteWrite b => exact ⟨_, rfl, dataPortWrite_effect _ b s⟩
  | dataWrite b => exact ⟨_, rfl, dataPortWrite_effect _ b s⟩
  | walkPage => exact ⟨_, rfl, .walk 1⟩
  | fillWalkDone => exact ⟨_, rfl, .ofPages (fillWalkDoneOp_pages s)⟩
  | checkWalkDone => exact ⟨_, rfl, .ofPages (checkWalkDoneOp_pages s)⟩
  | verifyWalkDone => exact ⟨_, rfl, .ofPages (verifyWalkDoneOp_pages s)⟩
  | busReset => exact ⟨_, rfl, .busReset⟩
  | mainSupplyRise => exact ⟨_, rfl, .rise⟩
  | mainSupplyFall => exact ⟨_, rfl, .fall⟩
  | dataRead => exact ⟨_, rfl, .other (stored_dataPortRead s)⟩
  | slselRelease => exact ⟨_, rfl, .other (stored_releaseSelect s)⟩
  | resetRelease => exact ⟨_, rfl, .other (stored_resetReleaseOp s)⟩
  | retentionLoss => exact ⟨_, rfl, .other (stored_retentionLossOp s)⟩
  | secondArrival => exact ⟨_, rfl, .other (stored_secondArrivalOp s)⟩
  | frameArrival w => exact ⟨_, rfl, .other (stored_frameArrivalOp w s)⟩
  | tick => exact ⟨_, rfl, .other (stored_tickOp s)⟩
  | voiceStep v => exact ⟨_, rfl, .other (stored_voiceExpiry v s)⟩
  | streamStep => exact ⟨_, rfl, .other (stored_streamExpiry s)⟩
  | envelopeMove v => exact ⟨_, rfl, .other (stored_envelopeExpiry v s)⟩
  | countdownExpiry e => exact ⟨_, rfl, .other (stored_countdownExpiryOp e s)⟩
  | patternStepEnd => exact ⟨_, rfl, .other (stored_patternStepEndOp s)⟩
  | restBegin => exact ⟨_, rfl, .other (stored_restBeginOp s)⟩
  | restEnd => exact ⟨_, rfl, .other (stored_restEndOp s)⟩
  | motorPeriod => exact ⟨_, rfl, .other (stored_motorPeriodOp s)⟩
  | hold i | release i | clockSet i | alarmArm i | alarmDisarm i | silence i | eventAck i | eventAckLost i | eventMask i
  | lineEnable i | battery i | powerMode i =>
    cases i
    · cases hb
    · cases hl
  | slotRead | readRecord => cases hl
  | _ => cases hb

/-- Everything a command can do to the store and the memories. -/
theorem exec_effect (c : Instr) (s : State) : ∃ t, exec c s = .next t ∧ Effect c s t := by
  cases hb : c.busBytes with
  | some bytes =>
    obtain ⟨r, code, h⟩ := exec_of_busBytes c s (by simp [hb])
    exact ⟨_, h, .requests (runBus_requests r code c s)⟩
  | none =>
    cases hl : c.linkBytes with
    | some bytes => exact ⟨_, exec_of_linkBytes c s bytes hl, .requests (runLink_requests bytes c s)⟩
    | none => exact arrival_effect c s hb hl

theorem effect_of_exec {c : Instr} {s t : State} (h : exec c s = .next t) : Effect c s t := by
  obtain ⟨u, hu, he⟩ := exec_effect c s
  obtain rfl := Host.Outcome.next.inj (h.symm.trans hu)
  exact he

/-- A step is an effect: the front command's, or an engine clock's, which is none of the store's. -/
theorem effect_of_step {s t : State} (h : step s = .next t) : ∃ c q, Effect c { s with pending := q } t := by
  unfold step at h
  split at h
  · obtain rfl := Host.Outcome.next.inj h
    exact ⟨.walkPage, s.pending, .other (stored_engineClock s)⟩
  · rename_i c rest _
    exact ⟨c, rest, effect_of_exec h⟩

end Sys2Proof.Safety
end

section
/-! Each page in exactly one place (R4): the places counted, and that every effect keeps the count. -/

namespace Sys2Proof.Safety

open Sys2Proof.Machine

/-- The pages of a slot record; none of a FREE slot. -/
def recordPages (x : Option SlotData) : List Page := x.elim [] SlotData.pages

theorem slotPages_eq (s : State) (n : SlotNo) : slotPages s n = recordPages s.slots[n] := by
  unfold slotPages recordPages; cases s.slots[n] <;> rfl

/-- How often a page stands in the page lists of a slot table. -/
def slotCount (slots : Vector (Option SlotData) 8) (p : Page) : Nat :=
  (slots.toList.map fun x => (recordPages x).count p).sum

/-- How often a page stands in a place of R4: pool, page lists, staging list. -/
def placeCount (s : State) (p : Page) : Nat := s.pool.count p + slotCount s.slots p + (stagingPages s).count p

/-- A slot table as a list, slot by slot. -/
theorem toList_eq_map_finRange (slots : Vector (Option SlotData) 8) :
    slots.toList = (List.finRange 8).map fun n => slots[n] := by
  refine List.ext_getElem (by simp) fun i _ _ => ?_
  simp

theorem count_placedPages (s : State) (p : Page) : (placedPages s).count p = placeCount s p := by
  simp only [placedPages, placeCount, slotCount, List.count_append, List.count_flatMap, Function.comp_def, slotPages_eq,
    toList_eq_map_finRange, List.map_map]

/-- One entry of a list takes the place of another in a sum over the list. -/
theorem sum_map_set {α : Type} (f : α → Nat) (xs : List α) (n : Nat) (x : α) (h : n < xs.length) :
    ((xs.set n x).map f).sum + f xs[n] = (xs.map f).sum + f x := by
  induction xs generalizing n with
  | nil => cases h
  | cons y ys ih =>
    cases n with
    | zero => simp only [List.set_cons_zero, List.map_cons, List.sum_cons, List.getElem_cons_zero]; omega
    | succ n =>
      have := ih n (Nat.lt_of_succ_lt_succ h)
      simp only [List.set_cons_succ, List.map_cons, List.sum_cons, List.getElem_cons_succ]
      omega

/-- A page list takes the place of another in the slot table. -/
theorem slotCount_set (slots : Vector (Option SlotData) 8) (n : SlotNo) (x : Option SlotData) (p : Page) :
    slotCount (slots.set n.val x n.isLt) p + (recordPages slots[n]).count p
      = slotCount slots p + (recordPages x).count p := by
  have := sum_map_set (fun x => (recordPages x).count p) slots.toList n.val x (by simp)
  rw [Vector.getElem_toList] at this
  simp only [slotCount, Vector.toList_set]
  exact this

theorem slotCount_replicate (p : Page) : slotCount (Vector.replicate 8 none) p = 0 := by
  simp only [slotCount, Vector.toList_replicate, List.map_replicate, List.sum_replicate_nat]
  rfl

theorem count_le_slotCount (s : State) (n : SlotNo) (p : Page) : (slotPages s n).count p ≤ slotCount s.slots p := by
  have := slotCount_set s.slots n none p
  rw [slotPages_eq]
  simp only [recordPages, Option.elim_none, List.count_nil] at this ⊢
  omega

theorem stagingPages_some {s : State} {t : Txn} (h : s.txn = some t) : stagingPages s = t.staging := by
  simp [stagingPages, h]

/-- Pages that stood nowhere in the pool, and once each, join it. -/
theorem count_joinPool {ps : List Page} {s : State} {p : Page} (h : s.pool.count p + ps.count p ≤ 1) :
    (joinPool ps s).pool.count p = s.pool.count p + ps.count p := by
  have nodup : (joinPool ps s).pool.Nodup := List.Pairwise.filter _ (List.nodup_finRange 64)
  rw [nodup.count]
  split <;> rename_i hp
  · have := ((mem_joinPool ps s p).1 hp).imp List.count_pos_iff.2 List.count_pos_iff.2
    omega
  · have := not_or.1 (fun h => hp ((mem_joinPool ps s p).2 h))
    rw [List.count_eq_zero_of_not_mem this.1, List.count_eq_zero_of_not_mem this.2]

/-! ### Shared operations -/

theorem partitioned_iff (s : State) : PagesPartitioned s ↔ ∀ p, placeCount s p = 1 := by
  simp only [PagesPartitioned, count_placedPages]

theorem partitioned_congr {s t : State} (h : PagesPartitioned s) (hpool : t.pool = s.pool) (hslots : t.slots = s.slots)
    (hstaging : stagingPages t = stagingPages s) : PagesPartitioned t := by
  rw [partitioned_iff] at h ⊢
  simpa [placeCount, hpool, hslots, hstaging] using h

theorem partitioned_of_stored {s t : State} (ht : stored t = stored s) (h : PagesPartitioned s) :
    PagesPartitioned t := by
  obtain ⟨-, -, hslots, hpool, -, htxn, -⟩ := (stored_eq_iff s t).1 ht
  exact partitioned_congr h hpool hslots (by simp [stagingPages, htxn])

theorem stagingPages_of_stored {s t : State} (h : stored t = stored s) : stagingPages t = stagingPages s := by
  obtain ⟨-, -, -, -, -, htxn, -⟩ := (stored_eq_iff s t).1 h
  simp [stagingPages, htxn]

/-- A grant suspends an OPEN transaction and keeps its staging list (R39). -/
@[simp] theorem stagingPages_grantHold (m : HoldMode) (s : State) : stagingPages (grantHold m s) = stagingPages s := by
  refine (stagingPages_of_stored (stored_postBoth ..)).trans ?_
  simp only [stagingPages]
  cases s.txn with
  | none => rfl
  | some t => dsimp only; split <;> rfl

@[simp] theorem stagingPages_grantPending (s : State) : stagingPages (grantPending s) = stagingPages s := by
  unfold grantPending; split <;> simp

/-- A grant moves no page (R39). -/
theorem partitioned_grantHold (m : HoldMode) {s : State} (h : PagesPartitioned s) :
    PagesPartitioned (grantHold m s) := by
  obtain ⟨-, -, hslots, hpool, -⟩ := (stored_eq_iff _ (grantHold m s)).1 (stored_postBoth ..)
  exact partitioned_congr h hpool hslots (stagingPages_grantHold m s)

theorem partitioned_grantPending {s : State} (h : PagesPartitioned s) : PagesPartitioned (grantPending s) := by
  unfold grantPending
  split
  · exact partitioned_grantHold _ h
  · exact h

/-- A roll-back gives the staging pages to the pool (R35). -/
theorem partitioned_rollBack (k : EndKind) {s : State} (h : PagesPartitioned s) : PagesPartitioned (rollBack k s) := by
  unfold rollBack
  split
  · exact h
  · rename_i t ht
    rw [partitioned_iff] at h ⊢
    intro p
    have hp := h p
    simp only [placeCount, stagingPages_some ht] at hp
    have pool := count_joinPool (ps := t.staging) (s := s) (p := p) (by omega)
    simp only [placeCount, joinPool_slots, pool, stagingPages, Option.elim, List.count_nil]
    omega

theorem partitioned_rollBackWithFail (k : EndKind) {s : State} (h : PagesPartitioned s) :
    PagesPartitioned (rollBackWithFail k s) := by
  unfold rollBackWithFail
  split
  · exact h
  · exact partitioned_of_stored (stored_postGame ..) (partitioned_rollBack k h)

/-- A slot's pages join the pool and a record with other pages takes their place; these were staged, or are none. -/
theorem partitioned_replaceSlot {s t : State} (n : SlotNo) (x : Option SlotData) (h : PagesPartitioned s)
    (hpool : t.pool = (joinPool (slotPages s n) s).pool) (hslots : t.slots = s.slots.set n.val x n.isLt)
    (hpages : recordPages x ++ stagingPages t = stagingPages s) : PagesPartitioned t := by
  rw [partitioned_iff] at h ⊢
  intro p
  have hp := h p
  have hle := count_le_slotCount s n p
  have hset := slotCount_set s.slots n x p
  have hcount := congrArg (List.count p) hpages
  simp only [placeCount, List.count_append] at hp hcount ⊢
  rw [hpool, hslots, count_joinPool (by omega)]
  rw [slotPages_eq] at hle ⊢
  omega

/-! ### What each store command can do -/

theorem walkInFlight_eq_false_iff (s : State) : walkInFlight s = false ↔ s.walk = .none := by simp [walkInFlight]

/-- OPEN does nothing, or starts a transaction of 1 to 8 pages of the pool where there was none (R24, R25). -/
theorem openOp_cases (slot size mode : Byte) (s : State) :
    (openOp slot size mode s).1 = s
    ∨ ∃ n k m, (storeHeld s = false ∧ s.walk = .none ∧ s.txn = none ∧ 1 ≤ k ∧ k ≤ 8 ∧ k ≤ s.pool.length)
        ∧ (openOp slot size mode s).1 = openTransaction n k m s := by
  unfold openOp refuse
  repeat' split
  all_goals try exact .inl rfl
  rename_i hh hw ht _ _ n _ _ m _ hz _ hp
  simp only [Bool.not_eq_true, Classical.not_not, walkInFlight_eq_false_iff] at hh hw ht
  exact .inr ⟨n, size.toNat, m, ⟨hh, hw, ht, by omega, by omega, by omega⟩, rfl⟩

/-- COMMIT does nothing, or makes the transaction SEALING with its check walk (R31, R32). -/
theorem commitOp_cases (s : State) :
    (commitOp s).1 = s
    ∨ ∃ t, (storeHeld s = false ∧ s.walk = .none ∧ s.txn = some t)
        ∧ (commitOp s).1 = { s with txn := some { t with phase := .sealing 0 }, walk := .check t.slot 0 0 0 } := by
  unfold commitOp refuse
  repeat' split
  all_goals try exact .inl rfl
  rename_i hh hw _ t ht
  exact .inr ⟨t, ⟨by simpa using hh, by simpa [walkInFlight] using hw, ht⟩, rfl⟩

/-- ABORT does nothing, or rolls the FILLING or OPEN transaction back; the end of its fill walk grants a hold that
waited (R35, R36). -/
theorem abortOp_cases (s : State) :
    (abortOp s).1 = s
    ∨ (∃ t d, (s.txn = some t ∧ t.phase = .filling d)
        ∧ (abortOp s).1 = grantPending (rollBackWithFail .aborted s))
    ∨ ∃ t w, (storeHeld s = false ∧ s.txn = some t ∧ t.phase = .opened w)
        ∧ (abortOp s).1 = rollBackWithFail .aborted s := by
  unfold abortOp refuse
  split
  · exact .inl rfl
  · rename_i hh
    split
    · exact .inl rfl
    · rename_i t ht
      cases hp : t.phase with
      | sealing d => exact .inl rfl
      | filling d => exact .inr (.inl ⟨t, d, ⟨ht, hp⟩, rfl⟩)
      | opened w => exact .inr (.inr ⟨t, w, ⟨by simpa using hh, ht, hp⟩, rfl⟩)

/-- ERASE does nothing, or frees a slot and gives its pages to the pool (R9, R10). -/
theorem eraseOp_cases (slot : Byte) (s : State) :
    (eraseOp slot s).1 = s
    ∨ ∃ n, s.walk = .none ∧ (eraseOp slot s).1 = setSlot n none (joinPool (slotPages s n) s) := by
  unfold eraseOp refuse
  repeat' split
  all_goals try exact .inl rfl
  rename_i hw _ n _ _ _
  exact .inr ⟨n, by simpa [walkInFlight] using hw, rfl⟩

/-- VERIFY does nothing, or starts its walk over a slot that is not FREE (R11). -/
theorem verifyOp_cases (slot : Byte) (s : State) :
    (verifyOp slot s).1 = s
    ∨ ∃ n d, (storeHeld s = false ∧ s.walk = .none ∧ s.slots[n] = some d)
        ∧ (verifyOp slot s).1 = { s with walk := .verify n 0 0 0 } := by
  unfold verifyOp refuse
  repeat' split
  all_goals try exact .inl rfl
  rename_i hh hw _ n _ hn
  obtain ⟨d, hd⟩ := Option.ne_none_iff_exists'.1 hn
  exact .inr ⟨n, d, ⟨by simpa using hh, by simpa [walkInFlight] using hw, hd⟩, rfl⟩

/-- The transaction that a bus reset or a DROP ends is FILLING or OPEN (R38, R44). -/
theorem exists_txn_of_rollsBack {s : State} (h : txnRollsBack s = true) :
    ∃ t, s.txn = some t ∧ ((∃ d, t.phase = .filling d) ∨ ∃ w, t.phase = .opened w) := by
  cases ht : s.txn with
  | none => simp [txnRollsBack, ht] at h
  | some t => cases hp : t.phase <;> simp_all [txnRollsBack]

theorem newHold_of_stays {m : HoldMode} {s : State} (h : m = .drop → txnRollsBack s = false) :
    (newHold m s).1 = if s.walk = .none then grantHold m s else { s with hold := .pending m } := by
  unfold newHold
  split
  · rename_i hp; exact absurd (h rfl) (by simp [txnRollsBack, hp])
  · rename_i hp; exact absurd (h rfl) (by simp [txnRollsBack, hp])
  · by_cases hw : s.walk = .none <;> simp [walkInFlight, hw]

theorem upgradeHold_of_stays {s : State} (h : txnRollsBack s = false) :
    (upgradeHold s).1 = { s with hold := .pending .drop } := by
  unfold upgradeHold
  split
  · rename_i hp; exact absurd h (by simp [txnRollsBack, hp])
  · rename_i hp; exact absurd h (by simp [txnRollsBack, hp])
  · rfl

/-- Everything HOLD can do (R38, R40): nothing, or the hold granted or left waiting, before it a roll-back of the
FILLING or OPEN transaction that DROP ends. -/
theorem holdOp_cases (b : Byte) (s : State) :
    (holdOp b s).1 = s
    ∨ (∃ m, (s.hold = .notHeld ∧ s.walk = .none ∧ (m = .drop → txnRollsBack s = false))
        ∧ (holdOp b s).1 = grantHold m s)
    ∨ (∃ m, ((s.hold = .notHeld ∧ s.walk ≠ .none ∨ s.hold = .pending .keep) ∧ (m = .drop → txnRollsBack s = false))
        ∧ (holdOp b s).1 = { s with hold := .pending m })
    ∨ ((∃ t, s.txn = some t ∧ ((∃ d, t.phase = .filling d) ∨ (∃ w, t.phase = .opened w) ∧ s.walk = .none))
        ∧ (holdOp b s).1 = grantHold .drop (rollBackWithFail .droppedByHold s))
    ∨ ((∃ t w, s.txn = some t ∧ t.phase = .opened w ∧ (s.walk ≠ .none ∨ s.hold = .pending .keep))
        ∧ (holdOp b s).1 = { rollBackWithFail .droppedByHold s with hold := .pending .drop }) := by
  unfold holdOp
  cases holdModeOf b with
  | none => exact .inl rfl
  | some m =>
    cases hh : s.hold with
    | held _ => exact .inl rfl
    | notHeld =>
      by_cases hm : m = .drop → txnRollsBack s = false
      · by_cases hw : s.walk = .none
        · exact .inr (.inl ⟨m, ⟨rfl, hw, hm⟩, by simp [newHold_of_stays hm, hw]⟩)
        · exact .inr (.inr (.inl ⟨m, ⟨.inl ⟨rfl, hw⟩, hm⟩, by simp [newHold_of_stays hm, hw]⟩))
      · obtain ⟨rfl, hr⟩ := Classical.not_imp.1 hm
        obtain ⟨t, ht, ⟨d, hp⟩ | ⟨w, hp⟩⟩ := exists_txn_of_rollsBack (by simpa using hr)
        · exact .inr (.inr (.inr (.inl ⟨⟨t, ht, .inl ⟨d, hp⟩⟩, by simp [newHold, ht, hp]⟩)))
        · by_cases hw : s.walk = .none
          · exact .inr (.inr (.inr (.inl ⟨⟨t, ht, .inr ⟨⟨w, hp⟩, hw⟩⟩, by simp [newHold, ht, hp, walkInFlight, hw]⟩)))
          · exact .inr (.inr (.inr (.inr ⟨⟨t, w, ht, hp, .inl hw⟩, by simp [newHold, ht, hp, walkInFlight, hw]⟩)))
    | pending p =>
      cases p with
      | drop => exact .inl rfl
      | keep =>
        cases m with
        | keep => exact .inl rfl
        | drop =>
          by_cases hr : txnRollsBack s = true
          · obtain ⟨t, ht, ⟨d, hp⟩ | ⟨w, hp⟩⟩ := exists_txn_of_rollsBack hr
            · exact .inr (.inr (.inr (.inl ⟨⟨t, ht, .inl ⟨d, hp⟩⟩, by simp [upgradeHold, ht, hp]⟩)))
            · exact .inr (.inr (.inr (.inr ⟨⟨t, w, ht, hp, .inr rfl⟩, by simp [upgradeHold, ht, hp]⟩)))
          · have hr := Bool.eq_false_iff.2 hr
            exact .inr (.inr (.inl ⟨.drop, ⟨.inr rfl, fun _ => hr⟩, by simp [upgradeHold_of_stays hr]⟩))

/-! ### Requests -/

theorem partitioned_openOp (slot size mode : Byte) {s : State} (h : PagesPartitioned s) :
    PagesPartitioned (openOp slot size mode s).1 := by
  rcases openOp_cases slot size mode s with he | ⟨n, k, m, ⟨-, -, htxn, -⟩, he⟩ <;> rw [he]
  · exact h
  · rw [partitioned_iff] at h ⊢
    intro p
    have hp := h p
    have hsplit := congrArg (List.count p) (List.take_append_drop k s.pool)
    rw [List.count_append] at hsplit
    simp only [placeCount, openTransaction, stagingPages, htxn, Option.elim, List.count_nil] at hp ⊢
    omega

theorem partitioned_commitOp {s : State} (h : PagesPartitioned s) : PagesPartitioned (commitOp s).1 := by
  rcases commitOp_cases s with he | ⟨t, ⟨-, -, ht⟩, he⟩ <;> rw [he]
  · exact h
  · exact partitioned_congr h rfl rfl (by simp [stagingPages, ht])

theorem partitioned_abortOp {s : State} (h : PagesPartitioned s) : PagesPartitioned (abortOp s).1 := by
  have fail := partitioned_rollBackWithFail .aborted h
  rcases abortOp_cases s with he | ⟨_, _, -, he⟩ | ⟨_, _, -, he⟩ <;> rw [he]
  · exact h
  · exact partitioned_grantPending fail
  · exact fail

theorem partitioned_eraseOp (slot : Byte) {s : State} (h : PagesPartitioned s) :
    PagesPartitioned (eraseOp slot s).1 := by
  rcases eraseOp_cases slot s with he | ⟨n, -, he⟩ <;> rw [he]
  · exact h
  · exact partitioned_replaceSlot n none h rfl rfl rfl

theorem partitioned_verifyOp (slot : Byte) {s : State} (h : PagesPartitioned s) :
    PagesPartitioned (verifyOp slot s).1 := by
  rcases verifyOp_cases slot s with he | ⟨n, d, -, he⟩ <;> rw [he] <;> exact h

theorem partitioned_holdOp (b : Byte) {s : State} (h : PagesPartitioned s) : PagesPartitioned (holdOp b s).1 := by
  have fail := partitioned_rollBackWithFail .droppedByHold h
  rcases holdOp_cases b s with he | ⟨m, -, he⟩ | ⟨m, -, he⟩ | ⟨-, he⟩ | ⟨-, he⟩ <;> rw [he]
  · exact h
  · exact partitioned_grantHold m h
  · exact partitioned_congr h rfl rfl rfl
  · exact partitioned_grantHold .drop fail
  · exact partitioned_congr fail rfl rfl rfl

theorem partitioned_releaseOp {s : State} (h : PagesPartitioned s) : PagesPartitioned (releaseOp s).1 := by
  unfold releaseOp
  split
  · exact h
  · exact h
  · refine partitioned_of_stored (stored_postBoth ..) (partitioned_congr h rfl rfl ?_)
    simp only [stagingPages]
    cases s.txn with
    | none => rfl
    | some t => dsimp only; split <;> rfl

theorem Request.partitioned {s t : State} (hr : Request s t) (h : PagesPartitioned s) : PagesPartitioned t := by
  cases hr with
  | other hs => exact partitioned_of_stored hs h
  | openTxn _ n z m => exact partitioned_openOp n z m h
  | commit => exact partitioned_commitOp h
  | abort => exact partitioned_abortOp h
  | erase _ n => exact partitioned_eraseOp n h
  | verify _ n => exact partitioned_verifyOp n h
  | hold _ m => exact partitioned_holdOp m h
  | release => exact partitioned_releaseOp h

theorem Requests.partitioned {s t : State} (hr : Requests s t) (h : PagesPartitioned s) : PagesPartitioned t := by
  induction hr with
  | refl => exact h
  | tail _ hr ih => exact hr.partitioned ih

/-! ### Walks, data and supply -/

theorem partitioned_fillWalkPage (n : SlotNo) (d : Nat) {s : State} (h : PagesPartitioned s) :
    PagesPartitioned (fillWalkPage n d s) := by
  simp only [fillWalkPage, fillComplete]
  split
  · exact h
  · rename_i t ht
    split
    · exact partitioned_congr h rfl rfl (by simp [stagingPages, ht])
    · refine partitioned_grantPending (partitioned_of_stored (stored_postGame ..) ?_)
      exact partitioned_congr h rfl rfl (by simp [stagingPages, ht])

/-- The switch gives the slot its staging pages and the pool its old ones (R33). -/
theorem partitioned_checkWalkPage (n : SlotNo) (d a b : Nat) {s : State} (h : PagesPartitioned s) :
    PagesPartitioned (checkWalkPage n d a b s) := by
  simp only [checkWalkPage, switchSlot]
  split
  · exact h
  · rename_i t ht
    split
    · exact partitioned_congr h rfl rfl (by simp [stagingPages, ht])
    · refine partitioned_grantPending (partitioned_of_stored (stored_postGame ..) ?_)
      exact partitioned_replaceSlot t.slot (some _) h rfl rfl (by simp [stagingPages, recordPages, ht])

/-- A slot record that keeps its page list. -/
theorem partitioned_setSlot_samePages {s : State} {n : SlotNo} {d : SlotData} (hd : s.slots[n] = some d) (bad : Bool)
    (h : PagesPartitioned s) : PagesPartitioned (setSlot n (some { d with damaged := bad }) s) := by
  rw [partitioned_iff] at h ⊢
  intro p
  have hset := slotCount_set s.slots n (some { d with damaged := bad }) p
  rw [hd] at hset
  have hp := h p
  simp only [placeCount, setSlot_slots, setSlot_pool, stagingPages, setSlot_txn, recordPages, Option.elim] at hset hp ⊢
  omega

theorem partitioned_verifyWalkPage (n : SlotNo) (d a b : Nat) {s : State} (h : PagesPartitioned s) :
    PagesPartitioned (verifyWalkPage n d a b s) := by
  have set {d} (hd : s.slots[n] = some d) (bad : Bool) :
      PagesPartitioned (setSlot n (some { d with damaged := bad }) { s with walk := .none }) :=
    partitioned_setSlot_samePages (s := { s with walk := .none }) hd bad h
  simp only [verifyWalkPage, verifyComplete]
  repeat' split
  · exact h
  · exact partitioned_grantPending h
  · rename_i hd _; exact partitioned_grantPending (set hd false)
  · rename_i hd _; exact partitioned_grantPending (partitioned_of_stored (stored_postGame ..) (set hd true))

theorem partitioned_walkPageOp {s : State} (h : PagesPartitioned s) : PagesPartitioned (walkPageOp s) := by
  unfold walkPageOp
  split
  · exact h
  · exact partitioned_fillWalkPage _ _ h
  · exact partitioned_checkWalkPage _ _ _ _ h
  · exact partitioned_verifyWalkPage _ _ _ _ h

theorem partitioned_walkPages (k : Nat) {s : State} (h : PagesPartitioned s) : PagesPartitioned (walkPages k s) := by
  induction k generalizing s with
  | zero => exact h
  | succ k ih => exact ih (partitioned_walkPageOp h)

end Sys2Proof.Safety
end

section
/-! Supply, reset and retention at the store, and the two invariants of pages and memories. -/

namespace Sys2Proof.Safety

open Sys2Proof.Machine

/-! ### Supply and reset -/

/-- The backup domain as the start-up sequence finds it: after a cell reset when retention was lost (R188, R190). -/
def backupAtRise (s : State) : State := if s.retention = .lost then cellReset s else s

/-- The blocks of sound and rumble at their reset values: their memories empty, the store as it was (R110, R124, R155). -/
theorem stored_resetBlocks (s : State) : stored (resetRumble (resetMixer (resetRing (resetVoices s)))) =
    { stored s with waveMem := [], ringMem := [], patternMem := [] } := rfl

/-- A rise keeps the backup domain and starts the main domain's memories empty, with no walk (R190). -/
theorem stored_startUp (s : State) : stored (startUp s) =
    { stored (backupAtRise s) with off := false, walk := .none, waveMem := [], ringMem := [], patternMem := [] } := by
  unfold startUp backupAtRise
  by_cases h : s.retention = .lost
  · simp only [h, decide_true, if_true, stored_postBoth]; rfl
  · simp only [h, decide_false, if_false, stored_postBoth]; rfl

theorem stored_rollBack_noteFall (k : EndKind) (s : State) : stored (rollBack k (noteFall s)) = stored (rollBack k s) := by
  have txn : (noteFall s).txn = s.txn := rfl
  cases h : s.txn with
  | none => simp only [rollBack, txn, h]; rfl
  | some t => simp only [rollBack, txn, h]; rfl

/-- A fall rolls any transaction back and leaves no walk and no hold (R45, R191). -/
theorem stored_supplyFall {s : State} (h : s.power ≠ .off) : stored (supplyFall s) =
    { stored (rollBack .lostPower s) with
      off := true, walk := .none, hold := .notHeld, waveMem := [], ringMem := [], patternMem := [] } := by
  rw [← stored_rollBack_noteFall, supplyFall, if_neg h, supplyFallStore]
  generalize rollBack .lostPower (noteFall s) = t
  rfl

/-- A bus reset at the records (R192). -/
theorem stored_busResetRecords (s : State) : stored (busResetRecords s) =
    { stored (busResetStore s) with waveMem := [], ringMem := [], patternMem := [] } := by
  unfold busResetRecords
  generalize busResetStore s = t
  exact stored_resetBlocks _

/-- The grant at a bus reset, where the reset ends the walk that a hold waits for (R44). -/
theorem grantAfterReset_cases (s t : State) :
    (grantAfterReset s t = t ∧ (s.walk = .none ∨ t.walk ≠ .none))
    ∨ (grantAfterReset s t = grantPending t ∧ s.walk ≠ .none ∧ t.walk = .none) := by
  unfold grantAfterReset walkInFlight
  by_cases hs : s.walk = .none
  · exact .inl (by simp [hs])
  · by_cases ht : t.walk = .none
    · exact .inr (by simp [hs, ht])
    · exact .inl (by simp [ht])

/-! ### Pages in one place -/

theorem partitioned_backupAtRise {s : State} (h : PagesPartitioned s) : PagesPartitioned (backupAtRise s) := by
  unfold backupAtRise
  split
  · rw [partitioned_iff]
    intro p
    show (List.finRange 64).count p + slotCount (Vector.replicate 8 none) p + 0 = 1
    rw [slotCount_replicate, (List.nodup_finRange 64).count, if_pos (List.mem_finRange p)]
  · exact h

/-- Pool, slot table and transaction decide where the pages are. -/
theorem partitioned_of_fields {s t : State} (h : PagesPartitioned s) (hpool : (stored t).pool = (stored s).pool)
    (hslots : (stored t).slots = (stored s).slots) (htxn : (stored t).txn = (stored s).txn) : PagesPartitioned t :=
  partitioned_congr h hpool hslots (congrArg (fun x : Option Txn => x.elim [] Txn.staging) htxn)

theorem partitioned_supplyRise {s : State} (h : PagesPartitioned s) : PagesPartitioned (supplyRise s) := by
  unfold supplyRise
  split
  · have hb := partitioned_backupAtRise h
    exact partitioned_of_fields hb (by rw [stored_startUp]) (by rw [stored_startUp]) (by rw [stored_startUp])
  · exact h

theorem partitioned_supplyFall {s : State} (h : PagesPartitioned s) : PagesPartitioned (supplyFall s) := by
  by_cases hp : s.power = .off
  · rwa [supplyFall, if_pos hp]
  · have hb := partitioned_rollBack .lostPower h
    exact partitioned_of_fields hb (by rw [stored_supplyFall hp]) (by rw [stored_supplyFall hp])
      (by rw [stored_supplyFall hp])

theorem partitioned_busResetRecords {s : State} (h : PagesPartitioned s) : PagesPartitioned (busResetRecords s) := by
  have hb : PagesPartitioned (if txnRollsBack s then rollBack .rolledBackReset s else s) := by
    split
    · exact partitioned_rollBack _ h
    · exact h
  have hs : PagesPartitioned (busResetStore s) := by
    simp only [busResetStore]
    split <;> exact hb
  exact partitioned_of_fields hs (by rw [stored_busResetRecords]) (by rw [stored_busResetRecords])
    (by rw [stored_busResetRecords])

theorem partitioned_busResetOp {s : State} (h : PagesPartitioned s) : PagesPartitioned (busResetOp s) := by
  simp only [busResetOp]
  split
  · exact h
  · have hr := partitioned_busResetRecords (s := { s with resetPin := true }) h
    rcases grantAfterReset_cases { s with resetPin := true } (busResetRecords { s with resetPin := true })
      with ⟨he, -⟩ | ⟨he, -⟩ <;> rw [he]
    · exact hr
    · exact partitioned_grantPending hr

/-- Data for a target move no page. -/
theorem targetWrite_frame (b : Byte) (s : State) :
    (targetWrite b s).power = s.power ∧ (targetWrite b s).pool = s.pool ∧ (targetWrite b s).slots = s.slots
      ∧ (targetWrite b s).walk = s.walk ∧ (targetWrite b s).txn = s.txn ∧ (targetWrite b s).hold = s.hold := by
  have refused (o : OutcomeCode) : (refuseAccess o s).power = s.power ∧ (refuseAccess o s).pool = s.pool
      ∧ (refuseAccess o s).slots = s.slots ∧ (refuseAccess o s).walk = s.walk ∧ (refuseAccess o s).txn = s.txn
      ∧ (refuseAccess o s).hold = s.hold := by
    obtain ⟨-, -, hslots, hpool, hwalk, htxn, hhold, -⟩ := (stored_eq_iff _ _).1 (stored_refuseAccess o s)
    exact ⟨refuseAccess_power o s, hpool, hslots, hwalk, htxn, hhold⟩
  unfold targetWrite
  split
  · exact refused _
  · exact ⟨rfl, rfl, rfl, rfl, rfl, rfl⟩
  · exact ⟨rfl, rfl, rfl, rfl, rfl, rfl⟩
  · unfold stageWrite
    repeat' split
    · exact refused _
    · exact refused _
    · exact ⟨rfl, rfl, rfl, rfl, rfl, rfl⟩
  · simp only [ringWrite]
    split <;> exact ⟨rfl, rfl, rfl, rfl, rfl, rfl⟩
  · exact refused _
  · exact refused _

theorem partitioned_targetWrite (b : Byte) {s : State} (h : PagesPartitioned s) :
    PagesPartitioned (targetWrite b s) := by
  obtain ⟨-, hpool, hslots, -, htxn, -⟩ := targetWrite_frame b s
  exact partitioned_of_fields h hpool hslots htxn

/-- Every effect keeps each page in exactly one place (R4). -/
theorem Effect.partitioned {c : Instr} {s t : State} (he : Effect c s t) (h : PagesPartitioned s) :
    PagesPartitioned t := by
  cases he with
  | requests hr => exact hr.partitioned h
  | walk k => exact partitioned_walkPages k h
  | dataWrite b => exact partitioned_targetWrite b h
  | busReset => exact partitioned_busResetOp h
  | rise => exact partitioned_supplyRise h
  | fall => exact partitioned_supplyFall h

/-! ### The four memories -/

/-- The bytes of pages, waveforms, ring and patterns. -/
def memories (s : State) : Memory × Memory × Memory × Memory := (s.pages, s.waveMem, s.ringMem, s.patternMem)

theorem memories_of_stored {s t : State} (h : stored t = stored s) : memories t = memories s := by
  obtain ⟨-, hp, -, -, -, -, -, hw, hr, hm⟩ := (stored_eq_iff s t).1 h
  simp [memories, hp, hw, hr, hm]

theorem memoriesSound_congr {s t : State} (h : MemoriesSound s) (hm : memories t = memories s) : MemoriesSound t := by
  simp only [memories, Prod.mk.injEq] at hm
  obtain ⟨hp, hw, hr, hpat⟩ := hm
  unfold MemoriesSound
  rwa [hp, hw, hr, hpat]

@[simp] theorem memories_grantHold (m : HoldMode) (s : State) : memories (grantHold m s) = memories s :=
  (memories_of_stored (stored_postBoth ..)).trans rfl

@[simp] theorem memories_grantPending (s : State) : memories (grantPending s) = memories s := by
  unfold grantPending; split <;> simp

@[simp] theorem memories_rollBack (k : EndKind) (s : State) : memories (rollBack k s) = memories s := by
  unfold rollBack; split <;> rfl

@[simp] theorem memories_rollBackWithFail (k : EndKind) (s : State) : memories (rollBackWithFail k s) = memories s := by
  unfold rollBackWithFail
  split
  · rfl
  · exact (memories_of_stored (stored_postGame ..)).trans (memories_rollBack k s)

/-- No request writes a byte of a memory. -/
theorem Request.memories {s t : State} (hr : Request s t) : memories t = memories s := by
  cases hr with
  | other h => exact memories_of_stored h
  | openTxn _ n z m => rcases openOp_cases n z m s with he | ⟨_, _, _, -, he⟩ <;> rw [he]; rfl
  | commit => rcases commitOp_cases s with he | ⟨_, -, he⟩ <;> rw [he]; rfl
  | abort => rcases abortOp_cases s with he | ⟨_, _, -, he⟩ | ⟨_, _, -, he⟩ <;> rw [he] <;> simp
  | erase _ n => rcases eraseOp_cases n s with he | ⟨_, -, he⟩ <;> rw [he]; rfl
  | verify _ n => rcases verifyOp_cases n s with he | ⟨_, _, -, he⟩ <;> rw [he]; rfl
  | hold _ b =>
    rcases holdOp_cases b s with he | ⟨_, -, he⟩ | ⟨_, -, he⟩ | ⟨-, he⟩ | ⟨-, he⟩ <;> rw [he]
    · simp
    · rfl
    · simp
    · exact memories_rollBackWithFail .droppedByHold s
  | release =>
    unfold releaseOp
    split
    · rfl
    · rfl
    · exact (memories_of_stored (stored_postBoth ..)).trans rfl

theorem Requests.memories {s t : State} (hr : Requests s t) : memories t = memories s := by
  induction hr with
  | refl => rfl
  | tail _ hr ih => exact hr.memories.trans ih

end Sys2Proof.Safety
end

section
/-! The memories stay canonical and in range, and the bytes of slot pages stay as they are. -/

namespace Sys2Proof.Safety

open Sys2Proof.Machine

/-! ### Pages of a walk -/

theorem memories_fillComplete (t : Txn) (s : State) : memories (fillComplete t s) = memories s :=
  (memories_grantPending _).trans ((memories_of_stored (stored_postGame ..)).trans rfl)

theorem memories_switchSlot (t : Txn) (ab : Nat × Nat) (s : State) : memories (switchSlot t ab s) = memories s :=
  (memories_grantPending _).trans ((memories_of_stored (stored_postGame ..)).trans rfl)

theorem memories_verifyComplete (n : SlotNo) (ab : Nat × Nat) (s : State) :
    memories (verifyComplete n ab s) = memories s := by
  simp only [verifyComplete]
  repeat' split
  · exact (memories_grantPending _).trans rfl
  · exact (memories_grantPending _).trans rfl
  · exact (memories_grantPending _).trans ((memories_of_stored (stored_postGame ..)).trans rfl)

/-- A page of a walk writes nothing, or fills a page of the staging list (R26). -/
theorem walkPageOp_memories (s : State) :
    memories (walkPageOp s) = memories s
    ∨ ∃ t k, s.txn = some t ∧ memories (walkPageOp s) = (fillStagingPage s t k, (memories s).2) := by
  rcases walkPageOp_cases s with ⟨-, he⟩ | ⟨n, d, -, he⟩ | ⟨n, d, a, b, -, he⟩ | ⟨n, d, a, b, -, he⟩ <;> rw [he]
  · exact .inl rfl
  · cases ht : s.txn with
    | none => exact .inl (by simp only [fillWalkPage, ht])
    | some t =>
      refine .inr ⟨t, d, rfl, ?_⟩
      simp only [fillWalkPage, ht]
      split
      · rfl
      · exact memories_fillComplete ..
  · left
    cases ht : s.txn with
    | none => simp only [checkWalkPage, ht]
    | some t =>
      simp only [checkWalkPage, ht]
      split
      · rfl
      · exact memories_switchSlot ..
  · left
    simp only [verifyWalkPage]
    split
    · rfl
    · exact memories_verifyComplete ..

/-- A walk stages no page: it keeps the staging list, or ends the transaction (R33). -/
theorem staging_walkPageOp {s : State} {p : Page} (h : p ∈ stagingPages (walkPageOp s)) : p ∈ stagingPages s := by
  rcases walkPageOp_cases s with ⟨-, he⟩ | ⟨n, d, -, he⟩ | ⟨n, d, a, b, -, he⟩ | ⟨n, d, a, b, -, he⟩ <;> rw [he] at h
  · exact h
  · cases ht : s.txn with
    | none => simpa only [fillWalkPage, ht] using h
    | some t =>
      rw [stagingPages_some ht]
      simp only [fillWalkPage, ht] at h
      split at h
      · exact h
      · rw [fillComplete, stagingPages_grantPending, stagingPages_of_stored (stored_postGame ..)] at h
        exact h
  · cases ht : s.txn with
    | none => simpa only [checkWalkPage, ht] using h
    | some t =>
      rw [stagingPages_some ht]
      simp only [checkWalkPage, ht] at h
      split at h
      · exact h
      · simp only [switchSlot, stagingPages_grantPending] at h
        rw [stagingPages_of_stored (stored_postGame ..)] at h
        exact absurd h List.not_mem_nil
  · simp only [verifyWalkPage, verifyComplete] at h
    repeat' split at h
    · exact h
    · rwa [stagingPages_grantPending] at h
    · rwa [stagingPages_grantPending] at h
    · rwa [stagingPages_grantPending, stagingPages_of_stored (stored_postGame ..)] at h

/-! ### Bytes of pages -/

theorem wf_fillStagingPage {s : State} (t : Txn) (k : Nat)
    (h : Memory.wf Config.unwrittenPage (Config.pageCount * Config.pageSize) s.pages = true) :
    Memory.wf Config.unwrittenPage (Config.pageCount * Config.pageSize) (fillStagingPage s t k) = true := by
  unfold fillStagingPage
  split
  · exact wf_fillPage _ _ _ h
  · exact h

theorem pageByte_fillStagingPage {s : State} {t : Txn} {k o : Nat} {p : Page} (hp : p ∉ t.staging) (ho : o < 512)
    (h : Memory.wf Config.unwrittenPage (Config.pageCount * Config.pageSize) s.pages = true) :
    pageByte (fillStagingPage s t k) p o = pageByte s.pages p o := by
  unfold fillStagingPage
  split
  · rename_i q hq
    have hne : p ≠ q := fun e => hp (e ▸ List.mem_of_getElem? hq)
    rw [pageByte_fillPage _ q p (Nat.le_refl 512) ho h, if_neg (fun hc => hne hc.1)]
  · rfl

theorem pageByte_writeListByte {m : Memory} {ps : List Page} {p : Page} (i : Nat) (b : Byte) {o : Nat} (hp : p ∉ ps)
    (ho : o < 512) (h : Memory.wf Config.unwrittenPage (Config.pageCount * Config.pageSize) m = true) :
    pageByte (writeListByte m ps i b) p o = pageByte m p o := by
  unfold writeListByte
  split
  · rename_i q hq
    have hne : pageAddress p o ≠ pageAddress q i := by
      intro e
      have : pageAddress q i = pageAddress q (i % 512) := by simp [pageAddress]
      exact hp ((pageAddress_inj ho (Nat.mod_lt _ (by decide)) (e.trans this)).1 ▸ List.mem_of_getElem? hq)
    unfold pageByte
    rw [Memory.read_write _ _ _ (Memory.wf_iff.1 h).1, if_neg hne]
  · rfl

/-! ### Data for a target -/

theorem openStaging_eq {s : State} {ps : List Page} (h : openStaging s = some ps) : stagingPages s = ps := by
  unfold openStaging at h
  split at h
  · rename_i t ht
    split at h
    · rw [stagingPages_some ht]; exact Option.some.inj h
    · cases h
  · cases h

/-- Everything a data-port write does to the memories (R29, R115, R176). -/
theorem targetWrite_memories (b : Byte) (s : State) :
    memories (targetWrite b s) = memories s
    ∨ (∃ a < Config.waveSize, memories (targetWrite b s)
        = (s.pages, Memory.write Config.unwrittenZero s.waveMem a b, s.ringMem, s.patternMem))
    ∨ (∃ a < Config.patternSize, memories (targetWrite b s)
        = (s.pages, s.waveMem, s.ringMem, Memory.write Config.unwrittenZero s.patternMem a b))
    ∨ memories (targetWrite b s)
        = (s.pages, s.waveMem, Memory.write Config.unwrittenRing s.ringMem s.ring.fill b, s.patternMem)
    ∨ ∃ i, memories (targetWrite b s)
        = (writeListByte s.pages (stagingPages s) i b, s.waveMem, s.ringMem, s.patternMem) := by
  have refused (o : OutcomeCode) : memories (refuseAccess o s) = memories s := memories_of_stored (stored_refuseAccess o s)
  unfold targetWrite
  split
  · exact .inl (refused _)
  · exact .inr (.inl ⟨_, Nat.mod_lt _ (by decide), rfl⟩)
  · exact .inr (.inr (.inl ⟨_, Nat.mod_lt _ (by decide), rfl⟩))
  · unfold stageWrite
    split
    · exact .inl (refused _)
    · split
      · exact .inl (refused _)
      · rename_i ps hps
        rw [openStaging_eq hps]
        exact .inr (.inr (.inr (.inr ⟨_, rfl⟩)))
  · simp only [ringWrite]
    split
    · exact .inr (.inr (.inr (.inl rfl)))
    · exact .inl rfl
  · exact .inl (refused _)
  · exact .inl (refused _)

/-! ### The memories stay sound -/

/-- The soundness of four memories that are written out. -/
theorem memoriesSound_of_eq {t : State} {p w r m : Memory} (he : memories t = (p, w, r, m))
    (hp : Memory.wf Config.unwrittenPage (Config.pageCount * Config.pageSize) p = true)
    (hw : Memory.wf Config.unwrittenZero Config.waveSize w = true)
    (hr : Memory.wf Config.unwrittenRing Config.ringSize r = true)
    (hm : Memory.wf Config.unwrittenZero Config.patternSize m = true) : MemoriesSound t := by
  simp only [memories, Prod.mk.injEq] at he
  obtain ⟨rfl, rfl, rfl, rfl⟩ := he
  exact ⟨hp, hw, hr, hm⟩

theorem memoriesSound_walkPages (k : Nat) {s : State} (h : MemoriesSound s) : MemoriesSound (walkPages k s) := by
  induction k generalizing s with
  | zero => exact h
  | succ k ih =>
    refine ih ?_
    obtain ⟨hp, hw, hr, hm⟩ := h
    rcases walkPageOp_memories s with he | ⟨t, d, -, he⟩
    · exact memoriesSound_of_eq he hp hw hr hm
    · exact memoriesSound_of_eq he (wf_fillStagingPage t d hp) hw hr hm

theorem memoriesSound_targetWrite (b : Byte) {s : State} (h : MemoriesSound s) (hfill : s.ring.fill < Config.ringSize) :
    MemoriesSound (targetWrite b s) := by
  obtain ⟨hp, hw, hr, hm⟩ := h
  rcases targetWrite_memories b s with he | ⟨a, ha, he⟩ | ⟨a, ha, he⟩ | he | ⟨i, he⟩
  · exact memoriesSound_of_eq he hp hw hr hm
  · exact memoriesSound_of_eq he hp (Memory.wf_write b ha hw) hr hm
  · exact memoriesSound_of_eq he hp hw hr (Memory.wf_write b ha hm)
  · exact memoriesSound_of_eq he hp hw (Memory.wf_write b hfill hr) hm
  · exact memoriesSound_of_eq he (wf_writeListByte _ i b hp) hw hr hm

/-- The bytes of pages after a rise: as they were, or after a cell reset none written (R19). -/
theorem supplyRise_pages (s : State) :
    (supplyRise s).pages = s.pages ∨ s.retention = .lost ∧ (supplyRise s).pages = [] := by
  unfold supplyRise
  split
  · have hp : (startUp s).pages = (backupAtRise s).pages := congrArg Stored.pages (stored_startUp s)
    rw [hp, backupAtRise]
    split
    · rename_i hl; exact .inr ⟨hl, rfl⟩
    · exact .inl rfl
  · exact .inl rfl

theorem memoriesSound_supplyRise {s : State} (h : MemoriesSound s) : MemoriesSound (supplyRise s) := by
  by_cases hp : s.power = .off
  · have he : memories (startUp s) = ((backupAtRise s).pages, [], [], []) :=
      congrArg (fun x : Stored => (x.pages, x.waveMem, x.ringMem, x.patternMem)) (stored_startUp s)
    have hpages : Memory.wf Config.unwrittenPage (Config.pageCount * Config.pageSize) (backupAtRise s).pages = true := by
      unfold backupAtRise
      split
      · rfl
      · exact h.1
    rw [supplyRise, if_pos hp]
    exact memoriesSound_of_eq he hpages rfl rfl rfl
  · rwa [supplyRise, if_neg hp]

theorem supplyFall_memories {s : State} (hp : s.power ≠ .off) : memories (supplyFall s) = (s.pages, [], [], []) := by
  have he : memories (supplyFall s) = ((rollBack .lostPower s).pages, [], [], []) :=
    congrArg (fun x : Stored => (x.pages, x.waveMem, x.ringMem, x.patternMem)) (stored_supplyFall hp)
  rwa [show (rollBack .lostPower s).pages = s.pages from congrArg Prod.fst (memories_rollBack .lostPower s)] at he

theorem memoriesSound_supplyFall {s : State} (h : MemoriesSound s) : MemoriesSound (supplyFall s) := by
  by_cases hp : s.power = .off
  · rwa [supplyFall, if_pos hp]
  · exact memoriesSound_of_eq (supplyFall_memories hp) h.1 rfl rfl rfl

theorem busResetStore_pages (s : State) : (busResetStore s).pages = s.pages := by
  have hroll : (if txnRollsBack s then rollBack .rolledBackReset s else s).pages = s.pages := by
    split
    · exact congrArg Prod.fst (memories_rollBack .rolledBackReset s)
    · rfl
  simp only [busResetStore]
  split <;> exact hroll

/-- A bus reset keeps the bytes of pages and empties the other memories (R192). -/
theorem busResetOp_memories {s : State} (h : s.power ≠ .off) : memories (busResetOp s) = (s.pages, [], [], []) := by
  have records : memories (busResetRecords { s with resetPin := true }) = (s.pages, [], [], []) := by
    have he : memories (busResetRecords { s with resetPin := true })
        = ((busResetStore { s with resetPin := true }).pages, [], [], []) :=
      congrArg (fun x : Stored => (x.pages, x.waveMem, x.ringMem, x.patternMem)) (stored_busResetRecords _)
    rwa [busResetStore_pages] at he
  simp only [busResetOp, if_neg h]
  rcases grantAfterReset_cases { s with resetPin := true } (busResetRecords { s with resetPin := true })
    with ⟨he, -⟩ | ⟨he, -⟩ <;> rw [he]
  · exact records
  · rw [memories_grantPending, records]

theorem memoriesSound_busResetOp {s : State} (h : MemoriesSound s) : MemoriesSound (busResetOp s) := by
  by_cases hp : s.power = .off
  · simpa only [busResetOp, if_pos hp] using h
  · exact memoriesSound_of_eq (busResetOp_memories hp) h.1 rfl rfl rfl

/-- Every effect keeps the memories canonical and in range, when the ring's fill position is. -/
theorem Effect.memoriesSound {c : Instr} {s t : State} (he : Effect c s t) (h : MemoriesSound s)
    (hr : s.ring.fill < Config.ringSize) : MemoriesSound t := by
  cases he with
  | requests hq => exact memoriesSound_congr h hq.memories
  | walk k => exact memoriesSound_walkPages k h
  | dataWrite b => exact memoriesSound_targetWrite b h hr
  | busReset => exact memoriesSound_busResetOp h
  | rise => exact memoriesSound_supplyRise h
  | fall => exact memoriesSound_supplyFall h

/-! ### Bytes of slot pages -/

/-- A walk writes only pages of the staging list (R26). -/
theorem pageByte_walkPages (k : Nat) {s : State} {p : Page} {o : Nat} (h : MemoriesSound s) (hp : p ∉ stagingPages s)
    (ho : o < 512) : pageByte (walkPages k s).pages p o = pageByte s.pages p o := by
  induction k generalizing s with
  | zero => rfl
  | succ k ih =>
    have one : pageByte (walkPageOp s).pages p o = pageByte s.pages p o := by
      rcases walkPageOp_memories s with he | ⟨t, d, ht, he⟩
      · rw [show (walkPageOp s).pages = s.pages from congrArg Prod.fst he]
      · rw [show (walkPageOp s).pages = fillStagingPage s t d from congrArg Prod.fst he]
        exact pageByte_fillStagingPage (stagingPages_some ht ▸ hp) ho h.1
    exact (ih (memoriesSound_walkPages 1 h) (fun hq => hp (staging_walkPageOp hq))).trans one

theorem pageByte_targetWrite (b : Byte) {s : State} {p : Page} {o : Nat} (h : MemoriesSound s)
    (hp : p ∉ stagingPages s) (ho : o < 512) : pageByte (targetWrite b s).pages p o = pageByte s.pages p o := by
  rcases targetWrite_memories b s with he | ⟨a, -, he⟩ | ⟨a, -, he⟩ | he | ⟨i, he⟩
  case inr.inr.inr.inr =>
    rw [show (targetWrite b s).pages = _ from congrArg Prod.fst he]
    exact pageByte_writeListByte i b hp ho h.1
  all_goals exact congrArg (pageByte · p o) (congrArg Prod.fst he)

/-- An effect other than a cell reset writes no page outside the staging list. -/
theorem Effect.pageByte {c : Instr} {s t : State} (he : Effect c s t) (hc : c ≠ .mainSupplyRise ∨ s.retention = .kept)
    (h : MemoriesSound s) {p : Page} (hp : p ∉ stagingPages s) {o : Nat} (ho : o < 512) :
    pageByte t.pages p o = pageByte s.pages p o := by
  cases he with
  | requests hq => rw [show t.pages = s.pages from congrArg Prod.fst hq.memories]
  | walk k => exact pageByte_walkPages k h hp ho
  | dataWrite b => exact pageByte_targetWrite b h hp ho
  | busReset =>
    by_cases hoff : s.power = .off
    · rw [busResetOp]; simp only [hoff, if_true]
    · rw [show (busResetOp s).pages = s.pages from congrArg Prod.fst (busResetOp_memories hoff)]
  | rise =>
    have hk : s.retention = .kept := hc.resolve_left fun hne => hne rfl
    rcases supplyRise_pages s with hs | ⟨hl, -⟩
    · rw [hs]
    · rw [hk] at hl; cases hl
  | fall =>
    by_cases hoff : s.power = .off
    · rw [supplyFall, if_pos hoff]
    · rw [show (supplyFall s).pages = s.pages from congrArg Prod.fst (supplyFall_memories hoff)]

/-- A page of a slot is not staged (R4). -/
theorem not_staged_of_slot {s : State} (h : PagesPartitioned s) {n : SlotNo} {d : SlotData} (hd : s.slots[n] = some d)
    {p : Page} (hp : p ∈ d.pages) : p ∉ stagingPages s := by
  intro hst
  have hone := (partitioned_iff s).1 h p
  have hle := count_le_slotCount s n p
  have hslot : 0 < (slotPages s n).count p := List.count_pos_iff.2 (by rw [slotPages_eq, hd]; exact hp)
  have hstaged := List.count_pos_iff.2 hst
  simp only [placeCount] at hone
  omega

end Sys2Proof.Safety

open Sys2Proof Sys2Proof.Machine Sys2Proof.Safety

/-- Settles O28: only a walk, a data-port write and a cell reset write pages, the first two only staged ones. -/
theorem slotPagesAreNeverWritten : Obligations.SlotPagesAreNeverWritten := by
  intro c s hpart hmem hc t ht n d hd p hp o ho
  exact (effect_of_exec ht).pageByte hc hmem (not_staged_of_slot hpart hd hp) ho

/-- Settles O55, by the effects a step can have. -/
theorem pagesAndMemoriesStaySound : Obligations.PagesAndMemoriesStaySound := by
  refine ⟨fun s s' h hs => ?_, fun s s' h hr hs => ?_⟩
  · obtain ⟨c, q, he⟩ := effect_of_step hs
    exact he.partitioned (s := { s with pending := q }) h
  · obtain ⟨c, q, he⟩ := effect_of_step hs
    obtain ⟨-, hfill, -⟩ := hr
    refine he.memoriesSound (s := { s with pending := q }) h ?_
    show s.ring.fill < 2048
    rw [hfill]
    exact Nat.mod_lt _ (by decide)
end

section
/-! The store's records in agreement (R2, R5, R7, R8, R22, R37 to R42): what every request, walk page, reset and change of
supply keeps. -/

namespace Sys2Proof.Safety

open Sys2Proof.Machine

/-- The page lists of a sound store: the pool ascending, slots and staging list as R2 and R5 give them, check bytes
below FFh (R7). -/
structure ListsSound (s : State) : Prop where
  pool : s.pool.Pairwise (· < ·)
  slots : ∀ n : SlotNo, ∀ d ∈ s.slots[n], pageListSound d.pages ∧ Half.hi d.check ≠ 0xFF ∧ Half.lo d.check ≠ 0xFF
  staging : ∀ t ∈ s.txn, pageListSound t.staging

theorem storeSound_iff (s : State) : StoreSound s ↔ ListsSound s ∧ walkSound s = true ∧ holdSound s = true
    ∧ (s.power = .off → s.txn = none ∧ s.hold = .notHeld ∧ s.walk = .none) :=
  ⟨fun ⟨hpool, hslots, hstaging, hrest⟩ => ⟨⟨hpool, hslots, hstaging⟩, hrest⟩,
    fun ⟨⟨hpool, hslots, hstaging⟩, hrest⟩ => ⟨hpool, hslots, hstaging, hrest⟩⟩

theorem StoreSound.lists {s : State} (h : StoreSound s) : ListsSound s := ((storeSound_iff s).1 h).1

theorem StoreSound.walks {s : State} (h : StoreSound s) : walkSound s = true := by
  obtain ⟨-, hwalk, -⟩ := (storeSound_iff s).1 h
  exact hwalk

theorem StoreSound.holds {s : State} (h : StoreSound s) : holdSound s = true := by
  obtain ⟨-, -, hhold, -⟩ := (storeSound_iff s).1 h
  exact hhold

theorem StoreSound.off {s : State} (h : StoreSound s) (hp : s.power = .off) :
    s.txn = none ∧ s.hold = .notHeld ∧ s.walk = .none := by
  obtain ⟨-, -, -, hoff⟩ := (storeSound_iff s).1 h
  exact hoff hp

/-- While the main supply is present, page lists, walk and hold are all there is to the store's soundness. -/
theorem storeSound_on {s : State} (hp : s.power ≠ .off) (hl : ListsSound s) (hw : walkSound s = true)
    (hh : holdSound s = true) : StoreSound s :=
  (storeSound_iff s).2 ⟨hl, hw, hh, fun h => absurd h hp⟩

/-- Soundness of the store is about its records and the power state alone. -/
theorem storeSound_of_fields {s t : State} (h : StoreSound s) (hpower : t.power = .off ↔ s.power = .off)
    (hslots : t.slots = s.slots) (hpool : t.pool = s.pool) (hwalk : t.walk = s.walk) (htxn : t.txn = s.txn)
    (hhold : t.hold = s.hold) : StoreSound t := by
  have pages : slotPages t = slotPages s := funext fun n => by simp only [slotPages, hslots]
  simpa only [StoreSound, walkSound, holdSound, hpower, hslots, hpool, hwalk, htxn, hhold, pages] using h

theorem storeSound_congr {s t : State} (h : StoreSound s) (ht : stored t = stored s) : StoreSound t := by
  obtain ⟨hpower, -, hslots, hpool, hwalk, htxn, hhold, -⟩ := (stored_eq_iff s t).1 ht
  exact storeSound_of_fields h hpower hslots hpool hwalk htxn hhold

theorem listsSound_of_fields {s t : State} (h : ListsSound s) (hpool : t.pool = s.pool) (hslots : t.slots = s.slots)
    (htxn : t.txn = s.txn) : ListsSound t :=
  ⟨hpool ▸ h.pool, hslots ▸ h.slots, htxn ▸ h.staging⟩

theorem listsSound_congr {s t : State} (h : ListsSound s) (ht : stored t = stored s) : ListsSound t := by
  obtain ⟨-, -, hslots, hpool, -, htxn, -⟩ := (stored_eq_iff s t).1 ht
  exact listsSound_of_fields h hpool hslots htxn

/-! ### The page lists -/

/-- A roll-back as the view shows it (R35). -/
theorem stored_rollBack {s : State} {t : Txn} (k : EndKind) (ht : s.txn = some t) :
    stored (rollBack k s)
      = stored { s with pool := (joinPool t.staging s).pool, txn := none, walk := s.walk.withoutTxn } := by
  simp only [rollBack, ht]; rfl

theorem stored_rollBackWithFail {s : State} {t : Txn} (k : EndKind) (ht : s.txn = some t) :
    stored (rollBackWithFail k s)
      = stored { s with pool := (joinPool t.staging s).pool, txn := none, walk := s.walk.withoutTxn } := by
  simp only [rollBackWithFail, ht, stored_postGame]
  exact stored_rollBack k ht

/-- A page list joins the pool and the transaction ends. -/
theorem listsSound_endTxn (ps : List Page) (w : WalkRecord) {s : State} (h : ListsSound s) :
    ListsSound { s with pool := (joinPool ps s).pool, txn := none, walk := w } :=
  ⟨joinPool_ascending ps s, h.slots, fun _ ht => nomatch ht⟩

theorem listsSound_rollBack (k : EndKind) {s : State} (h : ListsSound s) : ListsSound (rollBack k s) := by
  cases ht : s.txn with
  | none => simpa only [rollBack, ht] using h
  | some t => exact listsSound_congr (listsSound_endTxn _ _ h) (stored_rollBack k ht)

/-- A slot record replaced by a sound one, or by none. -/
theorem listsSound_setSlot {s : State} (n : SlotNo) (x : Option SlotData) (h : ListsSound s)
    (hx : ∀ d ∈ x, pageListSound d.pages ∧ Half.hi d.check ≠ 0xFF ∧ Half.lo d.check ≠ 0xFF) :
    ListsSound (setSlot n x s) := by
  obtain ⟨hpool, hslots, htxn⟩ := h
  refine ⟨hpool, fun m d hd => ?_, htxn⟩
  by_cases hm : m = n
  · subst hm
    exact hx d (by simpa using hd)
  · have hne : n.val ≠ m.val := fun e => hm (Fin.ext e.symm)
    refine hslots m d ?_
    simpa only [setSlot_slots, Fin.getElem_fin, Vector.getElem_set_ne (h := hne)] using hd

/-! ### A hold granted -/

/-- The transaction as a grant leaves it: suspended when OPEN (R39). -/
def Txn.suspended (t : Txn) : Txn := if Txn.isOpen t then { t with phase := .opened true } else t

theorem stored_grantHold (m : HoldMode) (s : State) :
    stored (grantHold m s) = stored { s with hold := .held m, txn := s.txn.map Txn.suspended } := by
  simp only [grantHold, stored_postBoth]
  cases s.txn with
  | none => rfl
  | some t => cases hp : t.phase <;> simp [Txn.suspended, Txn.isOpen, hp]

/-- A hold granted with no walk in flight over an OPEN transaction, or in DROP over none. -/
theorem storeSound_grantHold {s : State} (m : HoldMode) (hp : s.power ≠ .off) (hl : ListsSound s)
    (hw : s.walk = .none) (ht : ∀ t ∈ s.txn, Txn.isOpen t = true) (hm : m = .keep ∨ s.txn = none) :
    StoreSound (grantHold m s) := by
  refine storeSound_congr ?_ (stored_grantHold m s)
  cases hx : s.txn with
  | none => exact storeSound_on hp ⟨hl.pool, hl.slots, fun _ h => nomatch h⟩ (by simp [walkSound, hw]) (by simp [holdSound, hw])
  | some t =>
    have ho := ht t hx
    have hk : m = .keep := hm.resolve_right (by simp [hx])
    have hs : Txn.suspended t = { t with phase := .opened true } := if_pos ho
    refine storeSound_on hp ⟨hl.pool, hl.slots, ?_⟩ (by simp [walkSound, hw, hs, Txn.isOpen]) (by simp [holdSound, hw, hs, hk])
    rintro _ ⟨⟩
    rw [hs]
    exact hl.staging t hx

/-- The end of a walk (R39): the hold that waited for it is granted. -/
theorem storeSound_grantPending {s : State} (hp : s.power ≠ .off) (hl : ListsSound s) (hw : s.walk = .none)
    (ht : ∀ t ∈ s.txn, t.phase = .opened false)
    (hh : s.hold = .notHeld ∨ ∃ m, s.hold = .pending m ∧ (m = .keep ∨ s.txn = none)) : StoreSound (grantPending s) := by
  have hopen : ∀ t ∈ s.txn, Txn.isOpen t = true := fun t h => by simp [Txn.isOpen, ht t h]
  rcases hh with hh | ⟨m, hh, hm⟩
  · rw [grantPending_of_notHeld hh]
    refine storeSound_on hp hl ?_ ?_
    · simpa [walkSound, hw, Option.all_eq_true] using hopen
    · simpa [holdSound, hh, Option.all_eq_true] using fun t h => by simp [ht t h]
  · rw [grantPending_of_pending hh]
    exact storeSound_grantHold m hp hl hw hopen hm

theorem stored_grantPending {s u : State} (h : stored u = stored s) :
    stored (grantPending u) = stored (grantPending s) := by
  have hh : u.hold = s.hold := congrArg Stored.hold h
  unfold grantPending
  rw [hh]
  cases s.hold with
  | notHeld => exact h
  | held m => exact h
  | pending m =>
    simp only [stored_grantHold]
    exact congrArg (fun x : Stored => { x with hold := .held m, txn := x.txn.map Txn.suspended }) h

/-- The end of a walk with an event of its own. -/
theorem storeSound_grantAfterPost {s : State} (k : EventKind) (b : Byte) (hp : s.power ≠ .off) (hl : ListsSound s)
    (hw : s.walk = .none) (ht : ∀ t ∈ s.txn, t.phase = .opened false)
    (hh : s.hold = .notHeld ∨ ∃ m, s.hold = .pending m ∧ (m = .keep ∨ s.txn = none)) :
    StoreSound (grantPending (postGame k b s)) :=
  storeSound_congr (storeSound_grantPending hp hl hw ht hh) (stored_grantPending (stored_postGame ..))

/-! ### What the transaction's phase says of walk and hold -/

theorem walk_of_filling {s : State} {t : Txn} {d : Nat} (h : walkSound s = true) (ht : s.txn = some t)
    (hd : t.phase = .filling d) : ∃ n, s.walk = .fill n d := by
  cases hw : s.walk <;> simp_all [walkSound, Txn.isOpen]

/-- Beside an OPEN transaction only a VERIFY walk can be in flight. -/
theorem walk_of_opened {s : State} {t : Txn} {w : Bool} (h : walkSound s = true) (ht : s.txn = some t)
    (hd : t.phase = .opened w) : s.walk = .none ∨ ∃ n d a b, s.walk = .verify n d a b := by
  cases hw : s.walk <;> simp_all [walkSound, Txn.isOpen]

/-- Without a walk every transaction is OPEN. -/
theorem isOpen_of_idle {s : State} (h : walkSound s = true) (hw : s.walk = .none) : ∀ t ∈ s.txn, Txn.isOpen t = true := by
  simpa [walkSound, hw, Option.all_eq_true] using h

/-- A store that is not held has no request waiting without a walk. -/
theorem notHeld_of_idle {s : State} (h : holdSound s = true) (hf : storeHeld s = false) (hw : s.walk = .none) :
    s.hold = .notHeld := by
  cases hh : s.hold <;> simp_all [holdSound, storeHeld]

/-- While a walk is in flight the store is free, or a hold waits: in DROP only for a SEALING transaction or none. -/
theorem hold_of_walk {s : State} (h : holdSound s = true) (hw : s.walk ≠ .none) :
    s.hold = .notHeld ∨ ∃ m, s.hold = .pending m ∧ (m = .keep ∨ s.txn.all Txn.isSealing = true) := by
  cases hh : s.hold <;> simp_all [holdSound]

/-- While the store is not HELD no transaction is suspended. -/
theorem not_suspended {s : State} (h : holdSound s = true) (hf : storeHeld s = false) :
    ∀ t ∈ s.txn, t.phase ≠ .opened true := by
  cases hh : s.hold <;> simp_all [holdSound, storeHeld, Option.all_eq_true]

/-! ### Requests -/

theorem storeSound_openTransaction {s : State} (n : SlotNo) (k : Nat) (m : FillMode) (hp : s.power ≠ .off)
    (h : StoreSound s) (hf : storeHeld s = false) (hw : s.walk = .none) (h1 : 1 ≤ k) (h8 : k ≤ 8)
    (hk : k ≤ s.pool.length) : StoreSound (openTransaction n k m s) := by
  have hlen : (s.pool.take k).length = k := by simp [hk]
  refine storeSound_on hp ⟨h.lists.pool.sublist (List.drop_sublist ..), h.lists.slots, ?_⟩ ?_ ?_
  · rintro _ ⟨⟩
    exact ⟨h.lists.pool.sublist (List.take_sublist ..), by rw [hlen]; exact h1, by rw [hlen]; exact h8⟩
  · simp [walkSound, openTransaction]; omega
  · simp [holdSound, openTransaction, notHeld_of_idle h.holds hf hw]

theorem storeSound_commit {s : State} {t : Txn} (hp : s.power ≠ .off) (h : StoreSound s) (hf : storeHeld s = false)
    (hw : s.walk = .none) (ht : s.txn = some t) :
    StoreSound { s with txn := some { t with phase := .sealing 0 }, walk := .check t.slot 0 0 0 } := by
  obtain ⟨-, hlen, -⟩ := h.lists.staging t ht
  refine storeSound_on hp ⟨h.lists.pool, h.lists.slots, ?_⟩ ?_ ?_
  · rintro _ ⟨⟩
    exact h.lists.staging t ht
  · simp [walkSound]; omega
  · simp [holdSound, notHeld_of_idle h.holds hf hw]

/-- A FILLING transaction rolled back, as the view shows it: its fill walk is gone with it. -/
theorem rollBack_of_filling {s : State} {t : Txn} {d : Nat} (k : EndKind) (h : StoreSound s) (ht : s.txn = some t)
    (hd : t.phase = .filling d) : stored (rollBackWithFail k s)
      = stored { s with pool := (joinPool t.staging s).pool, txn := none, walk := .none } := by
  obtain ⟨n, hw⟩ := walk_of_filling h.walks ht hd
  rw [stored_rollBackWithFail k ht, hw]; rfl

/-- An OPEN transaction rolled back, as the view shows it: a VERIFY walk goes on. -/
theorem rollBack_of_opened {s : State} {t : Txn} {w : Bool} (k : EndKind) (h : StoreSound s) (ht : s.txn = some t)
    (hd : t.phase = .opened w) : stored (rollBackWithFail k s)
      = stored { s with pool := (joinPool t.staging s).pool, txn := none } := by
  rw [stored_rollBackWithFail k ht]
  rcases walk_of_opened h.walks ht hd with hw | ⟨n, d, a, b, hw⟩ <;> rw [hw] <;> rfl

end Sys2Proof.Safety
end

section
/-! The store's records in agreement, continued: every request. -/

namespace Sys2Proof.Safety

open Sys2Proof.Machine

theorem rollBackWithFail_on {s : State} (k : EndKind) (hp : s.power ≠ .off) : (rollBackWithFail k s).power ≠ .off := by
  simpa using hp

/-- A VERIFY walk beside an OPEN transaction is sound without it too. -/
theorem walkSound_withoutOpen {s : State} {t : Txn} {w : Bool} (h : walkSound s = true) (ht : s.txn = some t)
    (hd : t.phase = .opened w) (p : List Page) (x : HoldRecord) :
    walkSound { s with pool := p, txn := none, hold := x } = true := by
  rcases walk_of_opened h ht hd with hw | ⟨n, d, a, b, hw⟩
  · simp [walkSound, hw]
  · simp only [walkSound, hw, Bool.and_eq_true] at h
    obtain ⟨-, hv⟩ := h
    simp only [walkSound, hw, Option.all_none, Bool.true_and]
    exact hv

theorem storeSound_abortOp {s : State} (hp : s.power ≠ .off) (h : StoreSound s) : StoreSound (abortOp s).1 := by
  rcases abortOp_cases s with he | ⟨t, d, ⟨ht, hd⟩, he⟩ | ⟨t, w, ⟨hf, ht, hd⟩, he⟩ <;> rw [he]
  · exact h
  · have hs := rollBack_of_filling .aborted h ht hd
    have hwalk : s.walk ≠ .none := by
      obtain ⟨n, hw⟩ := walk_of_filling h.walks ht hd
      simp [hw]
    have htxn : (rollBackWithFail .aborted s).txn = none := congrArg Stored.txn hs
    have hhold : (rollBackWithFail .aborted s).hold = s.hold := congrArg Stored.hold hs
    refine storeSound_grantPending (rollBackWithFail_on _ hp) (listsSound_congr (listsSound_endTxn _ _ h.lists) hs)
      (congrArg Stored.walk hs) (by simp [htxn]) ?_
    rw [hhold, htxn]
    exact (hold_of_walk h.holds hwalk).imp_right fun ⟨m, hm, _⟩ => ⟨m, hm, .inr rfl⟩
  · refine storeSound_congr ?_ (rollBack_of_opened .aborted h ht hd)
    refine storeSound_on hp (listsSound_endTxn _ _ h.lists) (walkSound_withoutOpen h.walks ht hd _ _) ?_
    have := h.holds
    cases hh : s.hold <;> simp_all [holdSound, storeHeld]

theorem storeSound_erase {s : State} (n : SlotNo) (hp : s.power ≠ .off) (h : StoreSound s) (hw : s.walk = .none) :
    StoreSound (setSlot n none (joinPool (slotPages s n) s)) := by
  refine storeSound_on hp (listsSound_setSlot n none ⟨joinPool_ascending _ s, h.lists.slots, h.lists.staging⟩
    fun _ hd => nomatch hd) ?_ h.holds
  have := h.walks
  simp_all [walkSound]

theorem storeSound_verify {s : State} {n : SlotNo} {d : SlotData} (hp : s.power ≠ .off) (h : StoreSound s)
    (hf : storeHeld s = false) (hw : s.walk = .none) (hd : s.slots[n] = some d) :
    StoreSound { s with walk := .verify n 0 0 0 } := by
  obtain ⟨⟨-, hlen, -⟩, -⟩ := h.lists.slots n d hd
  refine storeSound_on hp (listsSound_of_fields h.lists rfl rfl rfl) ?_ ?_
  · have pages : slotPages { s with walk := .verify n 0 0 0 } n = d.pages := by simp only [slotPages, hd]
    have := isOpen_of_idle h.walks hw
    simp only [walkSound, pages, Bool.and_eq_true, Option.all_eq_true, decide_eq_true_eq]
    exact ⟨this, hlen, by omega, by omega⟩
  · have hh := notHeld_of_idle h.holds hf hw
    have := h.holds
    simp_all [holdSound]

/-- A hold left waiting for the walk in flight: in DROP only over a SEALING transaction or none. -/
theorem holdSound_pending {s : State} (m : HoldMode) (hw : s.walk ≠ .none) (ht : ∀ t ∈ s.txn, t.phase ≠ .opened true)
    (hm : m = .drop → txnRollsBack s = false) : holdSound { s with hold := .pending m } = true := by
  cases hx : s.txn with
  | none => simp [holdSound, hw]
  | some t =>
    have := ht t hx
    cases m <;> cases hp : t.phase <;> simp_all [holdSound, txnRollsBack, Txn.isSealing]

theorem storeSound_holdOp {s : State} (b : Byte) (hp : s.power ≠ .off) (h : StoreSound s) :
    StoreSound (holdOp b s).1 := by
  rcases holdOp_cases b s with
    he | ⟨m, ⟨hh, hw, hm⟩, he⟩ | ⟨m, ⟨hh, hm⟩, he⟩ | ⟨⟨t, ht, hd⟩, he⟩ | ⟨⟨t, w, ht, hd, hh⟩, he⟩ <;> rw [he]
  · exact h
  · have hopen := isOpen_of_idle h.walks hw
    refine storeSound_grantHold m hp h.lists hw hopen ?_
    cases m with
    | keep => exact .inl rfl
    | drop =>
      right
      cases hx : s.txn with
      | none => rfl
      | some t =>
        have ho := hopen t hx
        have hr := hm rfl
        cases hd : t.phase <;> simp_all [Txn.isOpen, txnRollsBack]
  · have hw : s.walk ≠ .none := by
      rcases hh with ⟨-, hw⟩ | hh
      · exact hw
      · have := h.holds
        simp_all [holdSound]
    have hf : storeHeld s = false := by rcases hh with ⟨hh, -⟩ | hh <;> simp [storeHeld, hh]
    exact storeSound_on hp (listsSound_of_fields h.lists rfl rfl rfl) h.walks
      (holdSound_pending m hw (not_suspended h.holds hf) hm)
  · have hs : stored (rollBackWithFail .droppedByHold s)
        = stored { s with pool := (joinPool t.staging s).pool, txn := none, walk := .none } := by
      rcases hd with ⟨d, hd⟩ | ⟨⟨w, hd⟩, hw⟩
      · exact rollBack_of_filling .droppedByHold h ht hd
      · rw [rollBack_of_opened .droppedByHold h ht hd, ← hw]
    have htxn : (rollBackWithFail .droppedByHold s).txn = none := congrArg Stored.txn hs
    exact storeSound_grantHold .drop (rollBackWithFail_on _ hp) (listsSound_congr (listsSound_endTxn _ _ h.lists) hs)
      (congrArg Stored.walk hs) (by simp [htxn]) (.inr htxn)
  · have hw : s.walk ≠ .none := by
      rcases hh with hw | hh
      · exact hw
      · have := h.holds
        simp_all [holdSound]
    have hs : stored { rollBackWithFail .droppedByHold s with hold := .pending .drop }
        = stored { s with pool := (joinPool t.staging s).pool, txn := none, hold := .pending .drop } :=
      congrArg (fun x : Stored => { x with hold := .pending .drop }) (rollBack_of_opened .droppedByHold h ht hd)
    refine storeSound_congr (s := { s with pool := _, txn := none, hold := .pending .drop }) ?_ hs
    exact storeSound_on hp (listsSound_of_fields (listsSound_endTxn t.staging s.walk h.lists) rfl rfl rfl)
      (walkSound_withoutOpen h.walks ht hd _ _) (by simp [holdSound, hw])

/-- RELEASE does nothing, or frees the store; a suspended transaction goes on (R41). -/
theorem releaseOp_cases (s : State) :
    (releaseOp s).1 = s
    ∨ (∃ m, s.hold = .pending m ∧ (releaseOp s).1 = { s with hold := .notHeld })
    ∨ ∃ m, s.hold = .held m ∧ stored (releaseOp s).1 = stored { s with
        hold := .notHeld, txn := s.txn.map fun t => if Txn.isOpen t then { t with phase := .opened false } else t } := by
  unfold releaseOp
  cases hh : s.hold with
  | notHeld => exact .inl rfl
  | pending m => exact .inr (.inl ⟨m, rfl, rfl⟩)
  | held m =>
    refine .inr (.inr ⟨m, rfl, ?_⟩)
    simp only [stored_postBoth]
    cases s.txn with
    | none => rfl
    | some t => cases hp : t.phase <;> simp [Txn.isOpen, hp]

theorem storeSound_releaseOp {s : State} (hp : s.power ≠ .off) (h : StoreSound s) : StoreSound (releaseOp s).1 := by
  rcases releaseOp_cases s with he | ⟨m, hh, he⟩ | ⟨m, hh, he⟩
  · rwa [he]
  · rw [he]
    refine storeSound_on hp (listsSound_of_fields h.lists rfl rfl rfl) h.walks ?_
    have := h.holds
    simp_all [holdSound]
  · have hhold := h.holds
    simp only [holdSound, hh, Bool.and_eq_true, decide_eq_true_eq] at hhold
    obtain ⟨⟨hw, hsusp⟩, -⟩ := hhold
    refine storeSound_congr ?_ he
    cases hx : s.txn with
    | none => exact storeSound_on hp ⟨h.lists.pool, h.lists.slots, fun _ ht => nomatch ht⟩ (by simp [walkSound, hw]) rfl
    | some t =>
      have hopen : Txn.isOpen t = true := isOpen_of_idle h.walks hw t hx
      simp only [Option.map_some, hopen, if_true]
      refine storeSound_on hp ⟨h.lists.pool, h.lists.slots, ?_⟩ (by simp [walkSound, hw, Txn.isOpen]) (by simp [holdSound])
      rintro _ ⟨⟩
      exact h.lists.staging t hx

theorem Request.storeSound {s t : State} (hr : Request s t) (h : StoreSound s) : StoreSound t := by
  cases hr with
  | other hs => exact storeSound_congr h hs
  | openTxn hp n z m =>
    rcases openOp_cases n z m s with he | ⟨n, k, m, ⟨hf, hw, -, h1, h8, hk⟩, he⟩ <;> rw [he]
    · exact h
    · exact storeSound_openTransaction n k m hp h hf hw h1 h8 hk
  | commit hp =>
    rcases commitOp_cases s with he | ⟨t, ⟨hf, hw, ht⟩, he⟩ <;> rw [he]
    · exact h
    · exact storeSound_commit hp h hf hw ht
  | abort hp => exact storeSound_abortOp hp h
  | erase hp n =>
    rcases eraseOp_cases n s with he | ⟨n, hw, he⟩ <;> rw [he]
    · exact h
    · exact storeSound_erase n hp h hw
  | verify hp n =>
    rcases verifyOp_cases n s with he | ⟨n, d, ⟨hf, hw, hd⟩, he⟩ <;> rw [he]
    · exact h
    · exact storeSound_verify hp h hf hw hd
  | hold hp b => exact storeSound_holdOp b hp h
  | release hp => exact storeSound_releaseOp hp h

theorem Requests.storeSound {s t : State} (hr : Requests s t) (h : StoreSound s) : StoreSound t := by
  induction hr with
  | refl => exact h
  | tail _ hr ih => exact hr.storeSound ih

end Sys2Proof.Safety
end

section
/-! The store's records in agreement, continued: pages of a walk, reset and supply; the invariant. -/

namespace Sys2Proof.Safety

open Sys2Proof.Machine

/-! ### Sums -/

theorem sumByte_lt (ab : Nat × Nat) (b : Byte) : (sumByte ab b).1 < 255 ∧ (sumByte ab b).2 < 255 :=
  ⟨Nat.mod_lt _ (by decide), Nat.mod_lt _ (by decide)⟩

theorem sumPage_lt {ab : Nat × Nat} (m : Memory) (p : Page) (h : ab.1 < 255 ∧ ab.2 < 255) :
    (sumPage m ab p).1 < 255 ∧ (sumPage m ab p).2 < 255 := by
  unfold sumPage
  generalize List.range Config.pageSize = os
  induction os generalizing ab with
  | nil => exact h
  | cons o os ih => exact ih (sumByte_lt ab _)

theorem sumListPage_lt {ab : Nat × Nat} (s : State) (ps : List Page) (k : Nat) (h : ab.1 < 255 ∧ ab.2 < 255) :
    (sumListPage s ps k ab).1 < 255 ∧ (sumListPage s ps k ab).2 < 255 := by
  unfold sumListPage
  split
  · exact sumPage_lt _ _ h
  · exact h

/-- The check of sums below 255 has no byte FFh (R7). -/
theorem checkValue_bytes {ab : Nat × Nat} (h : ab.1 < 255 ∧ ab.2 < 255) :
    Half.hi (checkValue ab) ≠ 0xFF ∧ Half.lo (checkValue ab) ≠ 0xFF := by
  obtain ⟨ha, hb⟩ := h
  refine ⟨fun e => ?_, fun e => ?_⟩
  · have := congrArg BitVec.toNat e
    simp [Half.hi, checkValue, Nat.shiftRight_eq_div_pow] at this
    omega
  · have := congrArg BitVec.toNat e
    simp [Half.lo, checkValue] at this
    omega

/-! ### Pages of a walk -/

/-- The transaction of a fill walk in flight (R25). -/
theorem txn_of_fill {s : State} {n : SlotNo} {d : Nat} (h : walkSound s = true) (hw : s.walk = .fill n d) :
    ∃ t, s.txn = some t ∧ t.slot = n ∧ t.phase = .filling d ∧ d < t.staging.length := by
  cases ht : s.txn <;> simp_all [walkSound]

/-- The transaction of a check walk in flight (R32). -/
theorem txn_of_check {s : State} {n : SlotNo} {d a b : Nat} (h : walkSound s = true) (hw : s.walk = .check n d a b) :
    ∃ t, s.txn = some t ∧ t.slot = n ∧ t.phase = .sealing d ∧ d < t.staging.length ∧ a < 255 ∧ b < 255 := by
  cases ht : s.txn <;> simp_all [walkSound]

/-- A VERIFY walk in flight (R11). -/
theorem slot_of_verify {s : State} {n : SlotNo} {d a b : Nat} (h : walkSound s = true) (hw : s.walk = .verify n d a b) :
    (∀ t ∈ s.txn, Txn.isOpen t = true) ∧ d < (slotPages s n).length ∧ a < 255 ∧ b < 255 := by
  simpa [walkSound, hw, Option.all_eq_true] using h

theorem storeSound_fillWalkPage {s : State} {n : SlotNo} {d : Nat} (hp : s.power ≠ .off) (h : StoreSound s)
    (hw : s.walk = .fill n d) : StoreSound (fillWalkPage n d s) := by
  obtain ⟨t, ht, hn, hd, hlt⟩ := txn_of_fill h.walks hw
  have hhold := hold_of_walk h.holds (by simp [hw])
  have hkeep : s.hold = .notHeld ∨ s.hold = .pending .keep := by
    refine hhold.imp_right fun ⟨m, hm, hk⟩ => ?_
    simp_all [Txn.isSealing]
  have hst := h.lists.staging t ht
  simp only [fillWalkPage, ht]
  split
  · rename_i hmore
    refine storeSound_on hp ⟨h.lists.pool, h.lists.slots, ?_⟩ ?_ ?_
    · rintro _ ⟨⟩; exact hst
    · simp [walkSound, hn, hmore]
    · rcases hkeep with hh | hh <;> simp [holdSound, hh]
  · refine storeSound_grantAfterPost _ _ hp ⟨h.lists.pool, h.lists.slots, ?_⟩ rfl ?_ ?_
    · rintro _ ⟨⟩; exact hst
    · rintro _ ⟨⟩; rfl
    · exact hkeep.imp_right fun hh => ⟨.keep, hh, .inl rfl⟩

/-- The slot record that a switch writes is sound (R33). -/
theorem storeSound_switchSlot {s : State} {t : Txn} {ab : Nat × Nat} (hp : s.power ≠ .off) (h : StoreSound s)
    (ht : s.txn = some t) (hab : ab.1 < 255 ∧ ab.2 < 255)
    (hh : s.hold = .notHeld ∨ ∃ m, s.hold = .pending m) : StoreSound (switchSlot t ab s) := by
  refine storeSound_grantAfterPost _ _ hp ?_ rfl (fun _ hx => nomatch hx) (hh.imp_right fun ⟨m, hm⟩ => ⟨m, hm, .inr rfl⟩)
  have hl : ListsSound { s with pool := (joinPool (slotPages s t.slot) s).pool, txn := none, walk := .none } :=
    listsSound_endTxn _ _ h.lists
  refine listsSound_of_fields (listsSound_setSlot t.slot _ hl ?_) rfl rfl rfl
  rintro _ ⟨⟩
  exact ⟨h.lists.staging t ht, checkValue_bytes hab⟩

theorem storeSound_checkWalkPage {s : State} {n : SlotNo} {d a b : Nat} (hp : s.power ≠ .off) (h : StoreSound s)
    (hw : s.walk = .check n d a b) : StoreSound (checkWalkPage n d a b s) := by
  obtain ⟨t, ht, hn, hd, hlt, ha, hb⟩ := txn_of_check h.walks hw
  have hhold := hold_of_walk h.holds (by simp [hw])
  have hab := sumListPage_lt s t.staging d (ab := (a, b)) ⟨ha, hb⟩
  simp only [checkWalkPage, ht]
  split
  · rename_i hmore
    refine storeSound_on hp ⟨h.lists.pool, h.lists.slots, ?_⟩ ?_ ?_
    · rintro _ ⟨⟩; exact h.lists.staging t ht
    · simp [walkSound, hn, hmore, hab]
    · rcases hhold with hh | ⟨m, hh, -⟩ <;> simp [holdSound, hh, Txn.isSealing]
  · exact storeSound_switchSlot hp h ht hab (hhold.imp_right fun ⟨m, hm, _⟩ => ⟨m, hm⟩)

theorem storeSound_verifyWalkPage {s : State} {n : SlotNo} {d a b : Nat} (hp : s.power ≠ .off) (h : StoreSound s)
    (hw : s.walk = .verify n d a b) : StoreSound (verifyWalkPage n d a b s) := by
  obtain ⟨hopen, hlt, ha, hb⟩ := slot_of_verify h.walks hw
  have hhold := hold_of_walk h.holds (by simp [hw])
  have hab := sumListPage_lt s (slotPages s n) d (ab := (a, b)) ⟨ha, hb⟩
  have htxn : ∀ t ∈ s.txn, t.phase = .opened false := by
    intro t ht
    have hf : storeHeld s = false := by rcases hhold with hh | ⟨m, hh, -⟩ <;> simp [storeHeld, hh]
    have hnot := not_suspended h.holds hf t ht
    have ho := hopen t ht
    cases hd : t.phase <;> simp_all [Txn.isOpen]
  have hend : s.hold = .notHeld ∨ ∃ m, s.hold = .pending m ∧ (m = .keep ∨ s.txn = none) := by
    refine hhold.imp_right fun ⟨m, hm, hk⟩ => ⟨m, hm, hk.imp_right fun hseal => ?_⟩
    cases ht : s.txn with
    | none => rfl
    | some t => simp_all [Txn.isSealing]
  simp only [verifyWalkPage]
  split
  · rename_i hmore
    refine storeSound_on hp (listsSound_of_fields h.lists rfl rfl rfl) ?_ ?_
    · simp only [walkSound, Bool.and_eq_true, Option.all_eq_true, decide_eq_true_eq]
      exact ⟨hopen, hmore, hab⟩
    · have := h.holds
      simp_all [holdSound]
  · simp only [verifyComplete]
    have hl : ListsSound { s with walk := .none } := listsSound_of_fields h.lists rfl rfl rfl
    cases hs : s.slots[n] with
    | none => exact storeSound_grantPending (s := { s with walk := .none }) hp hl rfl htxn hend
    | some y =>
      have lists (bad : Bool) : ListsSound (setSlot n (some { y with damaged := bad }) { s with walk := .none }) :=
        listsSound_setSlot n _ hl (by rintro _ ⟨⟩; exact h.lists.slots n y hs)
      dsimp only
      split
      · exact storeSound_grantPending (s := setSlot n _ { s with walk := .none }) hp (lists false) rfl htxn hend
      · exact storeSound_grantAfterPost (s := setSlot n _ { s with walk := .none }) _ _ hp (lists true) rfl htxn hend

theorem storeSound_walkPages (k : Nat) {s : State} (h : StoreSound s) : StoreSound (walkPages k s) := by
  induction k generalizing s with
  | zero => exact h
  | succ k ih =>
    refine ih ?_
    by_cases hp : s.power = .off
    · obtain ⟨-, -, hw⟩ := h.off hp
      simpa only [walkPageOp, hw] using h
    · rcases walkPageOp_cases s with
        ⟨-, he⟩ | ⟨n, d, hw, he⟩ | ⟨n, d, a, b, hw, he⟩ | ⟨n, d, a, b, hw, he⟩ <;> rw [he]
      · exact h
      · exact storeSound_fillWalkPage hp h hw
      · exact storeSound_checkWalkPage hp h hw
      · exact storeSound_verifyWalkPage hp h hw

theorem storeSound_targetWrite (b : Byte) {s : State} (h : StoreSound s) : StoreSound (targetWrite b s) := by
  obtain ⟨hpower, hpool, hslots, hwalk, htxn, hhold⟩ := targetWrite_frame b s
  exact storeSound_of_fields h (by rw [hpower]) hslots hpool hwalk htxn hhold

/-! ### Reset and supply -/

/-- A bus reset after its roll-back, if there is one: where no walk or a VERIFY walk is left, no walk is (R13). -/
theorem busResetStore_eq {s u : State} (hu : (if txnRollsBack s then rollBack .rolledBackReset s else s) = u)
    (h : u.walk = .none ∨ ∃ n d a b, u.walk = .verify n d a b) : busResetStore s = { u with walk := .none } := by
  simp only [busResetStore, hu]
  rcases h with hw | ⟨n, d, a, b, hw⟩ <;> simp only [hw]
  rw [← hw]

theorem withoutTxn_cases (w : WalkRecord) :
    w.withoutTxn = .none ∨ ∃ n d a b, w.withoutTxn = .verify n d a b := by
  cases w with
  | verify n d a b => exact .inr ⟨n, d, a, b, rfl⟩
  | _ => exact .inl rfl

/-- A bus reset at the store (R13, R44): a check walk goes on with its transaction; otherwise no transaction and no walk
is left, and the hold stays as it was. -/
theorem busResetStore_cases {s : State} (h : StoreSound s) :
    (busResetStore s = s ∧ s.walk ≠ .none)
    ∨ ((busResetStore s).walk = .none ∧ (busResetStore s).txn = none ∧ (busResetStore s).hold = s.hold
      ∧ ListsSound (busResetStore s)) := by
  by_cases hr : txnRollsBack s = true
  · obtain ⟨t, ht, -⟩ := exists_txn_of_rollsBack hr
    have hs := stored_rollBack .rolledBackReset ht
    have hw : (rollBack .rolledBackReset s).walk = s.walk.withoutTxn := congrArg Stored.walk hs
    right
    rw [busResetStore_eq (if_pos hr) (by rw [hw]; exact withoutTxn_cases s.walk)]
    exact ⟨rfl, congrArg Stored.txn hs, congrArg Stored.hold hs,
      listsSound_of_fields (listsSound_rollBack .rolledBackReset h.lists) rfl rfl rfl⟩
  · have hwalk := h.walks
    cases hx : s.txn with
    | some t =>
      left
      obtain ⟨d, hd⟩ : ∃ d, t.phase = .sealing d := by cases hp : t.phase <;> simp_all [txnRollsBack]
      cases hw : s.walk <;> simp_all [walkSound, Txn.isOpen, busResetStore]
    | none =>
      right
      rw [busResetStore_eq (if_neg hr) (by cases hw : s.walk <;> simp_all [walkSound])]
      exact ⟨rfl, hx, rfl, listsSound_of_fields h.lists rfl rfl rfl⟩

/-- A bus reset leaves sound records, but for a hold that waited for the walk it ended. -/
theorem storeSound_grantAfterReset {s t : State} (h : StoreSound s) (hp : s.power ≠ .off)
    (ht : stored t = { stored (busResetStore s) with waveMem := [], ringMem := [], patternMem := [] }) :
    StoreSound (grantAfterReset s t) := by
  have hpower : t.power = .off ↔ s.power = .off := by
    have := congrArg Stored.off ht
    simpa [stored] using this
  have hon : t.power ≠ .off := fun he => hp (hpower.1 he)
  have hslots : t.slots = (busResetStore s).slots := congrArg Stored.slots ht
  have hpool : t.pool = (busResetStore s).pool := congrArg Stored.pool ht
  have hwalk : t.walk = (busResetStore s).walk := congrArg Stored.walk ht
  have htxn : t.txn = (busResetStore s).txn := congrArg Stored.txn ht
  have hhold : t.hold = (busResetStore s).hold := congrArg Stored.hold ht
  rcases busResetStore_cases h with ⟨hb, hw⟩ | ⟨hb, hnone, hh, hl⟩
  · rw [hb] at hslots hpool hwalk htxn hhold
    have hsound := storeSound_of_fields h hpower hslots hpool hwalk htxn hhold
    rcases grantAfterReset_cases s t with ⟨he, -⟩ | ⟨-, -, he⟩
    · rwa [he]
    · exact absurd (hwalk.symm.trans he) hw
  · rw [hb] at hwalk
    rw [hnone] at htxn
    rw [hh] at hhold
    have hl : ListsSound t := listsSound_of_fields hl hpool hslots (htxn.trans hnone.symm)
    rcases grantAfterReset_cases s t with ⟨he, hw⟩ | ⟨he, hw, -⟩ <;> rw [he]
    · have hsw : s.walk = .none := hw.resolve_right (Classical.not_not.2 hwalk)
      have hold := h.holds
      refine storeSound_on hon hl (by simp [walkSound, hwalk, htxn]) ?_
      cases hx : s.hold <;> simp_all [holdSound]
    · refine storeSound_grantPending hon hl hwalk (by simp [htxn]) ?_
      rw [hhold, htxn]
      exact (hold_of_walk h.holds hw).imp_right fun ⟨m, hm, _⟩ => ⟨m, hm, .inr rfl⟩

theorem storeSound_busResetOp {s : State} (h : StoreSound s) : StoreSound (busResetOp s) := by
  unfold busResetOp
  have hu : StoreSound { s with resetPin := true } := h
  generalize { s with resetPin := true } = u at hu
  dsimp only
  split
  · exact hu
  · rename_i hp
    exact storeSound_grantAfterReset hu hp (stored_busResetRecords u)

theorem listsSound_backupAtRise {s : State} (h : ListsSound s) : ListsSound (backupAtRise s) := by
  unfold backupAtRise
  split
  · refine ⟨List.pairwise_lt_finRange 64, fun n d hd => ?_, fun _ ht => nomatch ht⟩
    have hfree : (cellReset s).slots = Vector.replicate 8 none := rfl
    rw [hfree] at hd
    simp at hd
  · exact h

/-- A rise finds no transaction, no hold and no walk, and starts none (R45, R190). -/
theorem storeSound_supplyRise {s : State} (h : StoreSound s) : StoreSound (supplyRise s) := by
  by_cases hp : s.power = .off
  · rw [supplyRise, if_pos hp]
    obtain ⟨htxn, hhold, -⟩ := h.off hp
    have hs := stored_startUp s
    have hon : (startUp s).power ≠ .off := of_decide_eq_false (congrArg Stored.off hs)
    obtain ⟨hbtxn, hbhold⟩ : (backupAtRise s).txn = none ∧ (backupAtRise s).hold = .notHeld := by
      unfold backupAtRise
      split
      · exact ⟨rfl, rfl⟩
      · exact ⟨htxn, hhold⟩
    have hslots : (startUp s).slots = (backupAtRise s).slots := congrArg Stored.slots hs
    have hpool : (startUp s).pool = (backupAtRise s).pool := congrArg Stored.pool hs
    have hwalk : (startUp s).walk = .none := congrArg Stored.walk hs
    have ht : (startUp s).txn = none := (congrArg Stored.txn hs).trans hbtxn
    have hh : (startUp s).hold = .notHeld := (congrArg Stored.hold hs).trans hbhold
    have hl := listsSound_backupAtRise h.lists
    exact storeSound_on hon (listsSound_of_fields hl hpool hslots (congrArg Stored.txn hs)) (by simp [walkSound, hwalk, ht])
      (by simp [holdSound, hh, ht])
  · rwa [supplyRise, if_neg hp]

theorem storeSound_supplyFall {s : State} (h : StoreSound s) : StoreSound (supplyFall s) := by
  by_cases hp : s.power = .off
  · rwa [supplyFall, if_pos hp]
  · have hs := stored_supplyFall hp
    have hl := listsSound_rollBack .lostPower h.lists
    have hnone : (rollBack .lostPower s).txn = none := by
      cases ht : s.txn with
      | none => simp only [rollBack, ht]
      | some t => exact congrArg Stored.txn (stored_rollBack .lostPower ht)
    have hslots : (supplyFall s).slots = (rollBack .lostPower s).slots := congrArg Stored.slots hs
    have hpool : (supplyFall s).pool = (rollBack .lostPower s).pool := congrArg Stored.pool hs
    have hwalk : (supplyFall s).walk = .none := congrArg Stored.walk hs
    have ht : (supplyFall s).txn = none := (congrArg Stored.txn hs).trans hnone
    have hh : (supplyFall s).hold = .notHeld := congrArg Stored.hold hs
    exact (storeSound_iff _).2 ⟨listsSound_of_fields hl hpool hslots (congrArg Stored.txn hs),
      by simp [walkSound, hwalk, ht], by simp [holdSound, hh, ht], fun _ => ⟨ht, hh, hwalk⟩⟩

/-- Every effect keeps the store's records in agreement. -/
theorem Effect.storeSound {c : Instr} {s t : State} (he : Effect c s t) (h : StoreSound s) : StoreSound t := by
  cases he with
  | requests hr => exact hr.storeSound h
  | walk k => exact storeSound_walkPages k h
  | dataWrite b => exact storeSound_targetWrite b h
  | busReset => exact storeSound_busResetOp h
  | rise => exact storeSound_supplyRise h
  | fall => exact storeSound_supplyFall h

end Sys2Proof.Safety

open Sys2Proof Sys2Proof.Machine Sys2Proof.Safety

/-- Settles O56, by the effects a step can have. -/
theorem storeStaysSound : Obligations.StoreStaysSound := by
  intro s s' _ h hs
  obtain ⟨c, q, he⟩ := effect_of_step hs
  exact he.storeSound (s := { s with pending := q }) h
end

section
/-! ERASE and VERIFY at their taking, the rows that name a walk's end, a whole VERIFY, and the state after reset. -/

namespace Sys2Proof.Safety

open Sys2Proof.Machine

/-! ### ERASE and VERIFY -/

theorem firstOutcome_cons_false (o : OutcomeCode) (rest : List (Bool × OutcomeCode)) :
    firstOutcome ((false, o) :: rest) = firstOutcome rest := rfl

/-- The outcome of ERASE, by the first check that fails (R9). -/
def eraseOutcome (slot : Byte) (s : State) : OutcomeCode := firstOutcome [
  (storeHeld s, .held), (walkInFlight s, .busy), (decide (8 ≤ slot.toNat), .noSuch),
  (s.txn.any (fun t => decide (t.slot.val = slot.toNat)), .state)]

/-- What an accepted ERASE leaves (R10). -/
def erased (slot : Byte) (s : State) : State :=
  match slotAt s slot with
  | none => s
  | some d => { joinPool d.pages s with slots := s.slots.setIfInBounds slot.toNat none }

theorem eraseOp_eq (slot : Byte) (s : State) :
    eraseOp slot s = (if eraseOutcome slot s = .ok then erased slot s else s, eraseOutcome slot s) := by
  unfold eraseOp eraseOutcome
  cases hh : storeHeld s with
  | true => rfl
  | false =>
    cases hw : walkInFlight s with
    | true => rfl
    | false =>
      by_cases hs : slot.toNat < 8
      · have named : (s.txn.any fun t => t.slot == (⟨slot.toNat, hs⟩ : Fin 8))
            = s.txn.any fun t => decide (t.slot.val = slot.toNat) := by
          simp only [Bool.beq_eq_decide_eq, Fin.ext_iff]
        simp only [indexBelow_of_lt hs, named, firstOutcome_cons_false, decide_eq_false (Nat.not_le.2 hs)]
        cases hn : s.txn.any fun t => decide (t.slot.val = slot.toNat) with
        | true => rfl
        | false =>
          have hat := slotAt_of_lt s slot hs
          cases hx : s.slots[(⟨slot.toNat, hs⟩ : Fin 8)] with
          | none => simp [erased, hat, hx, firstOutcome]
          | some d =>
            have pages : slotPages s ⟨slot.toNat, hs⟩ = d.pages := by simp only [slotPages, hx]
            simp [erased, hat, hx, firstOutcome, pages, setSlot, Vector.setIfInBounds, Array.setIfInBounds, hs]
      · simp [indexBelow_of_le (Nat.not_lt.1 hs), firstOutcome, Nat.not_lt.1 hs, refuse]

/-- The outcome of VERIFY, by the first check that fails (R11). -/
def verifyOutcome (slot : Byte) (s : State) : OutcomeCode := firstOutcome [
  (storeHeld s, .held), (walkInFlight s, .busy), (decide (8 ≤ slot.toNat), .noSuch), ((slotAt s slot).isNone, .state)]

theorem verifyOp_eq (slot : Byte) (s : State) :
    verifyOp slot s = (if verifyOutcome slot s = .ok then { s with walk := .verify (Fin.ofNat 8 slot.toNat) 0 0 0 } else s,
      verifyOutcome slot s) := by
  unfold verifyOp verifyOutcome
  cases hh : storeHeld s with
  | true => rfl
  | false =>
    cases hw : walkInFlight s with
    | true => rfl
    | false =>
      by_cases hs : slot.toNat < 8
      · have index : (⟨slot.toNat, hs⟩ : Fin 8) = Fin.ofNat 8 slot.toNat := Fin.ext (Nat.mod_eq_of_lt hs).symm
        have hat := slotAt_of_lt s slot hs
        simp only [indexBelow_of_lt hs, ← index, firstOutcome_cons_false, decide_eq_false (Nat.not_le.2 hs), hat]
        cases s.slots[(⟨slot.toNat, hs⟩ : Fin 8)] <;> rfl
      · simp [indexBelow_of_le (Nat.not_lt.1 hs), firstOutcome, Nat.not_lt.1 hs, refuse]

theorem erased_power (slot : Byte) (s : State) : (erased slot s).power = s.power := by
  unfold erased; split <;> rfl

/-! ### The rows that name a walk's end -/

/-- A run of WALK_PAGE commands is that many pages of the walk in flight. -/
theorem afterAll_walkPage (k : Nat) (s : State) : afterAll (List.replicate k .walkPage) s = walkPages k s := by
  induction k generalizing s with
  | zero => rfl
  | succ k ih => exact ih (walkPageOp s)

theorem stagingLength_eq (s : State) : stagingLength s = (stagingPages s).length := by
  unfold stagingLength stagingPages; cases s.txn <;> rfl

theorem max_one_sub {d n : Nat} (h : d < n) : max 1 (n - d) = n - d := by omega

theorem fillWalkDoneOp_of_fill {s : State} {n : SlotNo} {d : Nat} (h : walkSound s = true) (hw : s.walk = .fill n d) :
    fillWalkDoneOp s = afterAll (List.replicate ((stagingPages s).length - d) .walkPage) s := by
  obtain ⟨t, ht, -, -, hlt⟩ := txn_of_fill h hw
  rw [← stagingPages_some ht] at hlt
  rw [afterAll_walkPage, ← max_one_sub hlt, ← stagingLength_eq]
  simp only [fillWalkDoneOp, hw]

theorem checkWalkDoneOp_of_check {s : State} {n : SlotNo} {d a b : Nat} (h : walkSound s = true)
    (hw : s.walk = .check n d a b) :
    checkWalkDoneOp s = afterAll (List.replicate ((stagingPages s).length - d) .walkPage) s := by
  obtain ⟨t, ht, -, -, hlt, -⟩ := txn_of_check h hw
  rw [← stagingPages_some ht] at hlt
  rw [afterAll_walkPage, ← max_one_sub hlt, ← stagingLength_eq]
  simp only [checkWalkDoneOp, hw]

theorem verifyWalkDoneOp_of_verify {s : State} {n : SlotNo} {d a b : Nat} (h : walkSound s = true)
    (hw : s.walk = .verify n d a b) :
    verifyWalkDoneOp s = afterAll (List.replicate ((slotPages s n).length - d) .walkPage) s := by
  obtain ⟨-, hlt, -⟩ := slot_of_verify h hw
  rw [afterAll_walkPage, ← max_one_sub hlt]
  simp only [verifyWalkDoneOp, hw]

/-- The row of a walk's end does nothing while another walk or none is in flight. -/
theorem walkDoneOps_of_other (s : State) :
    ((∀ n d, s.walk ≠ .fill n d) → fillWalkDoneOp s = s)
    ∧ ((∀ n d a b, s.walk ≠ .check n d a b) → checkWalkDoneOp s = s)
    ∧ ((∀ n d a b, s.walk ≠ .verify n d a b) → verifyWalkDoneOp s = s) := by
  unfold fillWalkDoneOp checkWalkDoneOp verifyWalkDoneOp
  cases s.walk with
  | none => exact ⟨fun _ => rfl, fun _ => rfl, fun _ => rfl⟩
  | fill n d => exact ⟨fun h => absurd rfl (h n d), fun _ => rfl, fun _ => rfl⟩
  | check n d a b => exact ⟨fun _ => rfl, fun h => absurd rfl (h n d a b), fun _ => rfl⟩
  | verify n d a b => exact ⟨fun _ => rfl, fun _ => rfl, fun h => absurd rfl (h n d a b)⟩

/-! ### The check of a page list -/

theorem sumPage_eq (m : Memory) (ab : Nat × Nat) (p : Page) : sumPage m ab p = sumsOf ab (pageData m p) := by
  simp only [sumPage, sumsOf, pageData, List.foldl_map]; rfl

theorem sumsOf_append (ab : Nat × Nat) (x y : List Byte) : sumsOf ab (x ++ y) = sumsOf (sumsOf ab x) y := by
  simp [sumsOf]

theorem sumsOf_nil (ab : Nat × Nat) : sumsOf ab [] = ab := rfl

theorem dataOf_nil (m : Memory) : dataOf m [] = [] := rfl

/-- The data of a page list: its first page's bytes, then the rest's (R7). -/
theorem dataOf_cons (m : Memory) (p : Page) (ps : List Page) : dataOf m (p :: ps) = pageData m p ++ dataOf m ps := by
  have first : ∀ o ∈ List.range 512, listByte m (p :: ps) o = pageByte m p o := by
    intro o ho
    have ho := List.mem_range.1 ho
    simp [listByte, Nat.div_eq_of_lt ho, Nat.mod_eq_of_lt ho]
  have rest (o : Nat) : listByte m (p :: ps) (512 + o) = listByte m ps o := by
    have hdiv : (512 + o) / 512 = o / 512 + 1 := by omega
    simp [listByte, hdiv]
  have length : (p :: ps).length * Config.pageSize = 512 + ps.length * Config.pageSize := by
    simp only [List.length_cons, Config.pageSize]; omega
  rw [dataOf, length, List.range_add, List.map_append, List.map_map]
  rw [List.map_congr_left first]
  exact congrArg _ (List.map_congr_left fun o _ => rest o)

/-! ### A whole VERIFY -/

/-- A page of the VERIFY walk of a slot that holds a save (R12). -/
theorem verifyWalkPage_eq {n : SlotNo} {y : SlotData} {p : Page} {s : State} {d a b : Nat} (hy : s.slots[n] = some y)
    (hp : y.pages[d]? = some p) :
    verifyWalkPage n d a b s =
      let ab := sumsOf (a, b) (pageData s.pages p)
      if d + 1 < y.pages.length then { s with walk := .verify n (d + 1) ab.1 ab.2 } else verifyComplete n ab s := by
  have pages : slotPages s n = y.pages := by simp only [slotPages, hy]
  simp only [verifyWalkPage, pages, sumListPage, hp, sumPage_eq]

/-- The end of a VERIFY walk that no hold waits for: the slot is judged by the check (R12). -/
theorem verifyComplete_eq {n : SlotNo} {y : SlotData} {s : State} (ab : Nat × Nat) (w : WalkRecord) (hp : s.power ≠ .off)
    (hh : s.hold = .notHeld) (hy : s.slots[n] = some y) :
    verifyComplete n ab { s with walk := w } = verified n y (checkOfSums ab) s := by
  have check : checkValue ab = checkOfSums ab := rfl
  simp only [verifyComplete, hy, check]
  have hset (bad : Bool) : (setSlot n (some { y with damaged := bad }) { s with walk := .none }).hold = .notHeld := hh
  by_cases hc : checkOfSums ab = y.check
  · rw [if_pos hc, grantPending_of_notHeld (hset false)]
    simp [verified, setSlot, hc]
  · rw [if_neg hc, grantPending_of_notHeld (by simpa using hset true)]
    simp [verified, setSlot, postGame, hc, hp]

/-- The pages a VERIFY walk has left, from any point of it: the slot is judged by the sums taken on over them (R12). -/
theorem walkPages_verify {n : SlotNo} {y : SlotData} {s : State} (hpower : s.power ≠ .off) (hh : s.hold = .notHeld)
    (hy : s.slots[n] = some y) (ps : List Page) (p : Page) (d : Nat) (ab : Nat × Nat) (hd : y.pages.drop d = p :: ps) :
    walkPages (ps.length + 1) { s with walk := .verify n d ab.1 ab.2 }
      = verified n y (checkOfSums (sumsOf ab (dataOf s.pages (p :: ps)))) s := by
  have here : y.pages[d]? = some p := by rw [← List.head?_drop, hd]; rfl
  have next : y.pages.drop (d + 1) = ps := by rw [← List.tail_drop, hd]; rfl
  have length : y.pages.length - (d + 1) = ps.length := by rw [← List.length_drop, next]
  rw [dataOf_cons, sumsOf_append]
  show walkPages ps.length (verifyWalkPage n d ab.1 ab.2 { s with walk := .verify n d ab.1 ab.2 }) = _
  rw [verifyWalkPage_eq (s := { s with walk := .verify n d ab.1 ab.2 }) hy here]
  cases ps with
  | nil =>
    rw [if_neg (by rw [List.length_nil] at length; omega), dataOf_nil, sumsOf_nil]
    exact verifyComplete_eq _ _ hpower hh hy
  | cons q qs =>
    rw [if_pos (by rw [List.length_cons] at length; omega)]
    exact walkPages_verify hpower hh hy qs q (d + 1) _ next

/-- A slot number as the byte that names it. -/
theorem toNat_slotByte (n : SlotNo) : (BitVec.ofNat 8 n.val).toNat = n.val := by
  simp only [BitVec.toNat_ofNat]; omega

/-- VERIFY of a slot that holds a save, in an idle store (R11). -/
theorem verifyOp_idle {n : SlotNo} {y : SlotData} {s : State} (hh : s.hold = .notHeld) (hw : s.walk = .none)
    (hy : s.slots[n] = some y) :
    verifyOp (BitVec.ofNat 8 n.val) s = ({ s with walk := .verify n 0 0 0 }, .ok) := by
  have hn : indexBelow 8 (BitVec.ofNat 8 n.val) = some n := by
    rw [indexBelow_of_lt (by rw [toNat_slotByte]; exact n.isLt)]
    exact congrArg some (Fin.ext (toNat_slotByte n))
  simp [verifyOp, storeHeld, hh, walkInFlight, hw, hn, hy]

end Sys2Proof.Safety

open Sys2Proof Sys2Proof.Machine Sys2Proof.Safety

/-- Settles O21: the checks one after another, and what an accepted command leaves. -/
theorem eraseAndVerifyResults : Obligations.EraseAndVerifyResults := by
  intro r slot s hs
  refine ⟨congrArg Host.Outcome.next ?_, congrArg Host.Outcome.next ?_⟩
  · have he := eraseOp_eq slot s
    have hp : (eraseOp slot s).1.power ≠ .off := by
      rw [he]; dsimp only; split
      · rw [erased_power]; exact hs.1
      · exact hs.1
    rw [runBus_ready r 0x13 _ hs hp, he]; rfl
  · have hv := verifyOp_eq slot s
    have hp : (verifyOp slot s).1.power ≠ .off := by
      rw [hv]; dsimp only; split <;> exact hs.1
    rw [runBus_ready r 0x14 _ hs hp, hv]; rfl

/-- Settles O25: under `walkSound` the pages left are at least one. -/
theorem walkDoneIsItsPages : Obligations.WalkDoneIsItsPages := by
  intro s h
  obtain ⟨noFill, noCheck, noVerify⟩ := walkDoneOps_of_other s
  refine ⟨fun n d hw => ⟨?_, ?_, ?_⟩, fun n d a b hw => ⟨?_, ?_, ?_⟩, fun n d a b hw => ⟨?_, ?_, ?_⟩,
    fun hw => ⟨?_, ?_, ?_, ?_⟩⟩
  · exact congrArg Host.Outcome.next (fillWalkDoneOp_of_fill h hw)
  · exact congrArg Host.Outcome.next (noCheck (by simp [hw]))
  · exact congrArg Host.Outcome.next (noVerify (by simp [hw]))
  · exact congrArg Host.Outcome.next (checkWalkDoneOp_of_check h hw)
  · exact congrArg Host.Outcome.next (noFill (by simp [hw]))
  · exact congrArg Host.Outcome.next (noVerify (by simp [hw]))
  · exact congrArg Host.Outcome.next (verifyWalkDoneOp_of_verify h hw)
  · exact congrArg Host.Outcome.next (noFill (by simp [hw]))
  · exact congrArg Host.Outcome.next (noCheck (by simp [hw]))
  · exact congrArg Host.Outcome.next (show walkPageOp s = s by simp only [walkPageOp, hw])
  · exact congrArg Host.Outcome.next (noFill (by simp [hw]))
  · exact congrArg Host.Outcome.next (noCheck (by simp [hw]))
  · exact congrArg Host.Outcome.next (noVerify (by simp [hw]))

/-- Settles O27: the taking starts the walk at sums of 0, and its pages take the check of the slot's data. -/
theorem verifyComparesTheCheck : Obligations.VerifyComparesTheCheck := by
  intro r n s hs hh hw y hy hlen
  have hv := verifyOp_idle hh hw hy
  have taken : after (.verify r (BitVec.ofNat 8 n.val)) s = { reported r 0x14 .ok s with walk := .verify n 0 0 0 } := by
    show runBus r 0x14 (verifyOp (BitVec.ofNat 8 n.val)) s = _
    rw [runBus_ready r 0x14 _ hs (by rw [hv]; exact hs.1), hv]; rfl
  show afterAll (List.replicate y.pages.length .walkPage) (after (.verify r (BitVec.ofNat 8 n.val)) s) = _
  rw [taken, afterAll_walkPage]
  cases hp : y.pages with
  | nil => simp [hp] at hlen
  | cons p ps => exact walkPages_verify (s := reported r 0x14 .ok s) hs.1 hh hy ps p 0 (0, 0) (by rw [hp]; rfl)

/-- Settles O54, block by block. -/
theorem resetMeetsTheInvariants : Obligations.ResetMeetsTheInvariants := by
  have pages : PagesPartitioned State.reset := by decide
  have store : StoreSound State.reset := by decide
  have memories : MemoriesSound State.reset := by decide
  have calendar : CalendarSound State.reset := by decide
  have alarms : AlarmsSound State.reset := by decide
  have voices : VoicesSound State.reset := by decide
  have ring : RingSound State.reset := by decide
  have mixer : MixerSound State.reset := by decide
  have rumble : RumbleSound State.reset := by decide
  have events : EventsSound State.reset := by decide
  have ports : PortsSound State.reset := by decide
  have supply : SupplySound State.reset := by decide
  exact ⟨pages, store, memories, calendar, alarms, voices, ring, mixer, rumble, events, ports, supply⟩
end

section
/-! OPEN, COMMIT and ABORT at their taking: the checks one after another, and the roll-back in a sound store. -/

namespace Sys2Proof.Safety

open Sys2Proof.Machine

/-! ### A command's report and a request's reply -/

/-- A main-bus command at a ready port, from what its operation gives (R172). -/
theorem next_runBus {s t : State} {o : OutcomeCode} {op : State → Result} (r : Bool) (code : Byte) (h : busReady s)
    (hpower : (op s).1.power = s.power) (hop : op s = (t, o)) :
    (Host.Outcome.next (runBus r code op s) : Step) = .next (reported r code o t) := by
  have hp : (op s).1.power ≠ .off := hpower ▸ h.1
  rw [runBus_ready r code op h hp, hop]

/-! ### A table of checks -/

/-- A command judged by a table of checks: it leaves `t` when none fails, and `s` with the first failure otherwise. -/
def checked (checks : List (Bool × OutcomeCode)) (t s : State) : Result :=
  (if firstOutcome checks = .ok then t else s, firstOutcome checks)

theorem checked_nil (t s : State) : checked [] t s = (t, .ok) := rfl

theorem checked_cons {o : OutcomeCode} (ho : o ≠ .ok) (failed : Bool) (rest : List (Bool × OutcomeCode)) (t s : State) :
    checked ((failed, o) :: rest) t s = if failed then refuse o s else checked rest t s := by
  cases failed with
  | true => simp [checked, firstOutcome, ho, refuse]
  | false => rfl

/-! ### OPEN -/

theorem fillModeOf_eq (b : Byte) :
    fillModeOf b = if b.toNat ≤ 1 then some (if b = 0x01 then .copy else .plain) else none := by
  rw [fillModeOf, flagOf_eq]
  split <;> simp

/-- The checks of OPEN (R24). -/
def openChecks (slot size mode : Byte) (s : State) : List (Bool × OutcomeCode) := [
  (storeHeld s, .held), (walkInFlight s, .busy), (s.txn.isSome, .state),
  (decide (s.battery = .critical), .lowPower), (decide (8 ≤ slot.toNat), .noSuch),
  (decide (size.toNat = 0 ∨ 8 < size.toNat ∨ 1 < mode.toNat), .range),
  (decide (mode = 0x01) && (slotAt s slot).isNone, .state),
  (decide (s.pool.length < size.toNat), .full)]

theorem openOp_eq (slot size mode : Byte) (s : State) :
    openOp slot size mode s = checked (openChecks slot size mode s)
      (openTransaction (Fin.ofNat 8 slot.toNat) size.toNat (if mode = 0x01 then .copy else .plain) s) s := by
  unfold openOp openChecks
  simp only [checked_cons, checked_nil, ne_eq, reduceCtorEq, not_false_eq_true, fillModeOf_eq]
  by_cases hs : slot.toNat < 8
  · have index : (⟨slot.toNat, hs⟩ : Fin 8) = Fin.ofNat 8 slot.toNat := Fin.ext (Nat.mod_eq_of_lt hs).symm
    simp only [indexBelow_of_lt hs, slotAt_of_lt s slot hs, ← index, decide_eq_false (Nat.not_le.2 hs)]
    by_cases hm : mode.toNat ≤ 1
    · by_cases hc : mode = 0x01 <;> simp [hm, hc, Nat.not_lt.2 hm, Option.isSome_iff_ne_none]
    · simp [hm, Nat.lt_of_not_le hm, Option.isSome_iff_ne_none]
  · have hs := Nat.not_lt.1 hs
    simp [indexBelow_of_le hs, hs, Option.isSome_iff_ne_none]

/-! ### Phases of a transaction in a sound store -/

/-- A transaction that is neither OPEN nor SEALING is FILLING (R22). -/
theorem filling_of_not {t : Txn} (ho : Txn.isOpen t = false) (hs : Txn.isSealing t = false) :
    ∃ d, t.phase = .filling d := by
  cases hp : t.phase <;> simp_all [Txn.isOpen, Txn.isSealing]

theorem opened_of_isOpen {t : Txn} (h : Txn.isOpen t = true) : ∃ w, t.phase = .opened w := by
  cases hp : t.phase <;> simp_all [Txn.isOpen]

theorem sealing_of_isSealing {t : Txn} (h : Txn.isSealing t = true) : ∃ d, t.phase = .sealing d := by
  cases hp : t.phase <;> simp_all [Txn.isSealing]

/-- A FILLING transaction rolled back: its fill walk is stopped (R35). -/
theorem rollBackWithFail_of_filling {s : State} {t : Txn} {d : Nat} (k : EndKind) (hp : s.power ≠ .off)
    (h : walkSound s = true) (ht : s.txn = some t) (hd : t.phase = .filling d) :
    rollBackWithFail k s = { rolledBack k t s with walk := .none } := by
  obtain ⟨n, hw⟩ := walk_of_filling h ht hd
  rw [rollBackWithFail_eq k ht hp, hw]
  rfl

/-- An OPEN transaction rolled back: the walk, which can only be a VERIFY walk, goes on (R35). -/
theorem rollBackWithFail_of_opened {s : State} {t : Txn} {w : Bool} (k : EndKind) (hp : s.power ≠ .off)
    (h : walkSound s = true) (ht : s.txn = some t) (hd : t.phase = .opened w) :
    rollBackWithFail k s = rolledBack k t s := by
  have hwalk : s.walk.withoutTxn = s.walk := by
    rcases walk_of_opened h ht hd with hw | ⟨n, d, a, b, hw⟩ <;> rw [hw] <;> rfl
  rw [rollBackWithFail_eq k ht hp, hwalk]
  rfl

/-- A hold granted where there is no transaction to suspend (R39). -/
theorem grantHold_of_noTxn {s : State} (m : HoldMode) (hp : s.power ≠ .off) (ht : s.txn = none) :
    grantHold m s = granted m s := by
  rw [grantHold_eq m hp, ht, Option.map_none, ← ht]

/-! ### ABORT -/

theorem abortOp_of_filling {s : State} {t : Txn} {d : Nat} (hp : s.power ≠ .off) (hf : storeHeld s = false)
    (h : walkSound s = true) (ht : s.txn = some t) (hd : t.phase = .filling d) :
    abortOp s = (grantPending { rolledBack .aborted t s with walk := .none }, .ok) := by
  simp [abortOp, hf, ht, hd, rollBackWithFail_of_filling .aborted hp h ht hd]

theorem abortOp_of_opened {s : State} {t : Txn} {w : Bool} (hp : s.power ≠ .off) (hf : storeHeld s = false)
    (h : walkSound s = true) (ht : s.txn = some t) (hd : t.phase = .opened w) :
    abortOp s = (rolledBack .aborted t s, .ok) := by
  simp [abortOp, hf, ht, hd, rollBackWithFail_of_opened .aborted hp h ht hd]

end Sys2Proof.Safety

open Sys2Proof Sys2Proof.Machine Sys2Proof.Safety

/-- Settles O19: OPEN is its table of checks, then the start of the transaction. -/
theorem openResult : Obligations.OpenResult := fun r slot size mode s hs =>
  next_runBus r 0x10 hs (openOp_power slot size mode s) (openOp_eq slot size mode s)

/-- Settles O20: each clause is one branch of the operation; the roll-backs are those of a sound store. -/
theorem commitAndAbortResults : Obligations.CommitAndAbortResults := by
  refine ⟨fun r s hs => ?_, fun r s hs => ?_⟩
  · have taken {t : State} {o : OutcomeCode} := next_runBus (t := t) (o := o) r 0x11 hs (commitOp_power s)
    refine ⟨fun hh => taken ?_, fun hh hw => taken ?_, fun hh hw ht => taken ?_, fun t ht hh hw => taken ?_⟩
    · simp [commitOp, refuse, hh]
    · simp [commitOp, refuse, hh, hw]
    · simp [commitOp, refuse, hh, hw, ht]
    · simp [commitOp, hh, hw, show s.txn = some t from ht]
  · have taken {t : State} {o : OutcomeCode} := next_runBus (t := t) (o := o) r 0x12 hs (abortOp_power s)
    obtain ⟨hp, -⟩ := hs
    refine ⟨fun hh => taken ?_, fun hh ht => taken ?_, fun t ht hh hseal => taken ?_,
      fun t ht hh hopen hsound => taken ?_, fun t ht k hd hh hsound => taken ?_, fun t ht k m hd hh hsound => taken ?_⟩
    · simp [abortOp, refuse, hh]
    · simp [abortOp, refuse, hh, ht]
    · obtain ⟨d, hd⟩ := sealing_of_isSealing hseal
      simp [abortOp, refuse, hh, show s.txn = some t from ht, hd]
    · obtain ⟨w, hd⟩ := opened_of_isOpen hopen
      exact abortOp_of_opened hp hh hsound ht hd
    · rw [abortOp_of_filling hp (by simp [storeHeld, hh]) hsound ht hd, grantPending_of_notHeld (by exact hh)]
      rfl
    · rw [abortOp_of_filling hp (by simp [storeHeld, hh]) hsound ht hd, grantPending_of_pending (by exact hh),
        grantHold_of_noTxn m (by exact hp) rfl]
      rfl
end

section
/-! HOLD, RELEASE and SLOT READ of the side link, branch by branch. -/

namespace Sys2Proof.Safety

open Sys2Proof.Machine

/-- A request in a frame that has received nothing, from what its operation gives (R179, R180). -/
theorem next_runLink {s t : State} {o : OutcomeCode} {data : List Byte} {op : State → LinkResult} (bytes : List Byte)
    (h : linkReady s) (hpower : (op s).1.power = s.power) (hop : op s = (t, o, data)) :
    (Host.Outcome.next (runLink bytes op s) : Step) = .next (replied o data t) := by
  have hp : (op s).1.power ≠ .off := hpower ▸ h.1
  rw [runLink_ready bytes op h hp, hop]

theorem exec_hold {s t : State} {b : Byte} {o : OutcomeCode} (h : linkReady s) (hop : holdOp b s = (t, o)) :
    exec (.hold .system b) s = .next (replied o [] t) :=
  next_runLink [0x15, b] h (holdOp_power b s) (congrArg noData hop)

/-- A HOLD that is granted when no walk is in flight and waits for one otherwise (R38). -/
theorem exec_hold_of_walk {s t u : State} {b : Byte} (h : linkReady s)
    (hop : holdOp b s = if s.walk = .none then (t, .ok) else (u, .pending)) :
    exec (.hold .system b) s =
      if s.walk = .none then .next (replied .ok [] t) else .next (replied .pending [] u) := by
  split <;> rename_i hw
  · exact exec_hold h (hop.trans (if_pos hw))
  · exact exec_hold h (hop.trans (if_neg hw))

theorem exec_release {s t : State} {o : OutcomeCode} (h : linkReady s) (hop : releaseOp s = (t, o)) :
    exec (.release .system) s = .next (replied o [] t) :=
  next_runLink [0x16] h (releaseOp_power s) (congrArg noData hop)

/-! ### HOLD by the state of the hold -/

theorem holdModeOf_flag (drop : Bool) :
    holdModeOf (if drop then 0x01 else 0x00) = some (if drop then .drop else .keep) := by
  cases drop <;> rfl

theorem holdOp_of_badMode {b : Byte} {s : State} (h : 1 < b.toNat) : holdOp b s = (s, .range) := by
  simp [holdOp, holdModeOf, flagOf_eq, Nat.not_le.2 h, refuse]

section
variable {b : Byte} {m : HoldMode} {s : State}

theorem holdOp_of_held (hb : holdModeOf b = some m) (hh : storeHeld s = true) : holdOp b s = (s, .ok) := by
  cases hx : s.hold <;> simp_all [holdOp, storeHeld]

theorem holdOp_of_notHeld (hb : holdModeOf b = some m) (hh : s.hold = .notHeld) : holdOp b s = newHold m s := by
  simp [holdOp, hb, hh]

theorem holdOp_of_pendingDrop (hb : holdModeOf b = some m) (hh : s.hold = .pending .drop) :
    holdOp b s = (s, .pending) := by
  simp [holdOp, hb, hh]

theorem holdOp_of_pendingKeep (hb : holdModeOf b = some m) (hh : s.hold = .pending .keep) :
    holdOp b s = if m = .drop then upgradeHold s else (s, .pending) := by
  simp [holdOp, hb, hh]

end

/-! ### A HOLD taken while NOT-HELD, by the transaction and the mode -/

/-- The transaction stays: the hold is granted, or waits for the walk (R38). -/
theorem newHold_eq_of_stays {m : HoldMode} {s : State} (h : m = .drop → txnRollsBack s = false) :
    newHold m s = if s.walk = .none then (grantHold m s, .ok) else ({ s with hold := .pending m }, .pending) := by
  unfold newHold
  split
  · rename_i hp; exact absurd (h rfl) (by simp [txnRollsBack, hp])
  · rename_i hp; exact absurd (h rfl) (by simp [txnRollsBack, hp])
  · by_cases hw : s.walk = .none <;> simp [walkInFlight, hw]

theorem txnRollsBack_of_none {s : State} (ht : s.txn = none) : txnRollsBack s = false := by simp [txnRollsBack, ht]

theorem txnRollsBack_of_sealing {s : State} {t : Txn} (ht : s.txn = some t) (hs : Txn.isSealing t = true) :
    txnRollsBack s = false := by
  obtain ⟨d, hd⟩ := sealing_of_isSealing hs
  simp [txnRollsBack, ht, hd]

/-- A transaction that is not OPEN has its walk in flight (R8). -/
theorem walk_ne_none_of_notOpen {s : State} {t : Txn} (h : walkSound s = true) (ht : s.txn = some t)
    (ho : Txn.isOpen t = false) : s.walk ≠ .none := by
  intro hw
  have := isOpen_of_idle h hw t ht
  simp_all

/-- A hold granted over an OPEN transaction, which it suspends (R39). -/
theorem grantHold_of_open {s : State} {t : Txn} (m : HoldMode) (hp : s.power ≠ .off) (ht : s.txn = some t)
    (ho : Txn.isOpen t = true) : grantHold m s = granted m { s with txn := some { t with phase := .opened true } } := by
  rw [grantHold_eq m hp, ht, Option.map_some, if_pos ho]

theorem newHold_of_noTxn {m : HoldMode} {s : State} (hp : s.power ≠ .off) (ht : s.txn = none) :
    newHold m s = if s.walk = .none then (granted m s, .ok) else ({ s with hold := .pending m }, .pending) := by
  rw [newHold_eq_of_stays fun _ => txnRollsBack_of_none ht, grantHold_of_noTxn m hp ht]

theorem newHold_of_sealing {m : HoldMode} {s : State} {t : Txn} (h : walkSound s = true) (ht : s.txn = some t)
    (hs : Txn.isSealing t = true) : newHold m s = ({ s with hold := .pending m }, .pending) := by
  have ho : Txn.isOpen t = false := by
    obtain ⟨d, hd⟩ := sealing_of_isSealing hs
    simp [Txn.isOpen, hd]
  rw [newHold_eq_of_stays fun _ => txnRollsBack_of_sealing ht hs, if_neg (walk_ne_none_of_notOpen h ht ho)]

theorem newHold_keep_of_open {s : State} {t : Txn} (hp : s.power ≠ .off) (ht : s.txn = some t)
    (ho : Txn.isOpen t = true) :
    newHold .keep s = if s.walk = .none then (granted .keep { s with txn := some { t with phase := .opened true } }, .ok)
      else ({ s with hold := .pending .keep }, .pending) := by
  rw [newHold_eq_of_stays (m := .keep) nofun, grantHold_of_open .keep hp ht ho]

theorem newHold_drop_of_open {s : State} {t : Txn} (hp : s.power ≠ .off) (h : walkSound s = true)
    (ht : s.txn = some t) (ho : Txn.isOpen t = true) :
    newHold .drop s = if s.walk = .none then (granted .drop (rolledBack .droppedByHold t s), .ok)
      else ({ rolledBack .droppedByHold t s with hold := .pending .drop }, .pending) := by
  obtain ⟨w, hd⟩ := opened_of_isOpen ho
  have hg : grantHold .drop (rolledBack .droppedByHold t s) = granted .drop (rolledBack .droppedByHold t s) :=
    grantHold_of_noTxn .drop hp rfl
  by_cases hw : s.walk = .none <;>
    simp [newHold, ht, hd, rollBackWithFail_of_opened .droppedByHold hp h ht hd, walkInFlight, hw, hg]

theorem newHold_keep_of_filling {s : State} {t : Txn} {d : Nat} (h : walkSound s = true) (ht : s.txn = some t)
    (hd : t.phase = .filling d) : newHold .keep s = ({ s with hold := .pending .keep }, .pending) := by
  have ho : Txn.isOpen t = false := by simp [Txn.isOpen, hd]
  rw [newHold_eq_of_stays (m := .keep) nofun, if_neg (walk_ne_none_of_notOpen h ht ho)]

/-- The fill walk that a DROP stops is no longer waited for (R38, R40). -/
theorem grantHold_drop_of_filling {s : State} {t : Txn} {d : Nat} (hp : s.power ≠ .off) (h : walkSound s = true)
    (ht : s.txn = some t) (hd : t.phase = .filling d) :
    grantHold .drop (rollBackWithFail .droppedByHold s)
      = granted .drop { rolledBack .droppedByHold t s with walk := .none } := by
  rw [rollBackWithFail_of_filling .droppedByHold hp h ht hd]
  exact grantHold_of_noTxn .drop hp rfl

theorem newHold_drop_of_filling {s : State} {t : Txn} {d : Nat} (hp : s.power ≠ .off) (h : walkSound s = true)
    (ht : s.txn = some t) (hd : t.phase = .filling d) :
    newHold .drop s = (granted .drop { rolledBack .droppedByHold t s with walk := .none }, .ok) := by
  rw [← grantHold_drop_of_filling hp h ht hd]
  simp [newHold, ht, hd]

/-! ### A DROP over a recorded KEEP -/

theorem upgradeHold_of_sealing {s : State} (h : s.txn.all Txn.isSealing = true) :
    upgradeHold s = ({ s with hold := .pending .drop }, .pending) := by
  cases ht : s.txn with
  | none => simp [upgradeHold, ht]
  | some t =>
    obtain ⟨d, hd⟩ := sealing_of_isSealing (by simpa [ht] using h)
    simp [upgradeHold, ht, hd]

theorem upgradeHold_of_open {s : State} {t : Txn} (hp : s.power ≠ .off) (h : walkSound s = true)
    (ht : s.txn = some t) (ho : Txn.isOpen t = true) :
    upgradeHold s = ({ rolledBack .droppedByHold t s with hold := .pending .drop }, .pending) := by
  obtain ⟨w, hd⟩ := opened_of_isOpen ho
  simp [upgradeHold, ht, hd, rollBackWithFail_of_opened .droppedByHold hp h ht hd]

theorem upgradeHold_of_filling {s : State} {t : Txn} {d : Nat} (hp : s.power ≠ .off) (h : walkSound s = true)
    (ht : s.txn = some t) (hd : t.phase = .filling d) :
    upgradeHold s = (granted .drop { rolledBack .droppedByHold t s with walk := .none }, .ok) := by
  rw [← grantHold_drop_of_filling hp h ht hd]
  simp [upgradeHold, ht, hd]

/-! ### RELEASE -/

/-- RELEASE of a held store, in which a transaction can only be suspended (R41). -/
theorem releaseOp_of_held {s : State} (hp : s.power ≠ .off) (hh : storeHeld s = true)
    (ho : s.txn.all Txn.isOpen = true) :
    releaseOp s = ({ s with
      hold := .notHeld, txn := s.txn.map fun t => { t with phase := .opened false }
      gameEvents := s.gameEvents.post .hold 0, systemEvents := s.systemEvents.post .hold 0 }, .ok) := by
  obtain ⟨m, hm⟩ : ∃ m, s.hold = .held m := by cases hx : s.hold <;> simp_all [storeHeld]
  cases ht : s.txn with
  | none => simp [releaseOp, hm, ht, postBoth, postGame, postSystem, hp]
  | some t =>
    obtain ⟨w, hd⟩ := opened_of_isOpen (by simpa [ht] using ho)
    simp [releaseOp, hm, ht, hd, postBoth, postGame, postSystem, hp]

/-! ### SLOT READ -/

theorem slotReadOp_of_saved {slot count : Byte} {offset : Half} {s : State} {d : SlotData} (hh : storeHeld s = true)
    (hd : slotAt s slot = some d) (h1 : 1 ≤ count.toNat) (h32 : count.toNat ≤ 32) :
    let size := d.pages.length * 512
    let start := (if offset = 0xFFFF then s.side.slotRead else offset.toNat) % size
    slotReadOp slot offset count s = ({ s with side.slotRead := (start + count.toNat) % size }, .ok,
      (List.range count.toNat).map fun i => listByte s.pages d.pages ((start + i) % size)) := by
  have hs : slot.toNat < 8 := by
    refine Nat.lt_of_not_le fun hs => ?_
    rw [slotAt_of_le s slot hs] at hd
    cases hd
  rw [slotAt_of_lt s slot hs] at hd
  have hc : ¬(count.toNat = 0 ∨ 32 < count.toNat) := by omega
  simp only [slotReadOp, hh, indexBelow_of_lt hs, hd, if_neg hc]
  rfl

/-- The outcome of SLOT READ is that of its table of checks (R43). -/
theorem slotReadOp_refused (slot count : Byte) (offset : Half) (s : State) :
    let o := firstOutcome [
      (!storeHeld s, .state), (decide (8 ≤ slot.toNat), .noSuch), ((slotAt s slot).isNone, .state),
      (decide (count.toNat = 0 ∨ 32 < count.toNat), .range)]
    o ≠ .ok → slotReadOp slot offset count s = (s, o, []) := by
  intro o ho
  unfold slotReadOp
  cases hh : storeHeld s with
  | false => simp [o, firstOutcome, hh]
  | true =>
    by_cases hs : slot.toNat < 8
    · have hat := slotAt_of_lt s slot hs
      cases hd : s.slots[(⟨slot.toNat, hs⟩ : Fin 8)] with
      | none => simp [o, firstOutcome, hh, Nat.not_le.2 hs, indexBelow_of_lt hs, hat, hd]
      | some d =>
        by_cases hc : count.toNat = 0 ∨ 32 < count.toNat
        · simp [o, firstOutcome, hh, Nat.not_le.2 hs, indexBelow_of_lt hs, hat, hd, hc]
        · exact absurd (by simp [o, firstOutcome, hh, hs, hat, hd, hc]) ho
    · simp [o, firstOutcome, hh, Nat.not_lt.1 hs, indexBelow_of_le (Nat.not_lt.1 hs)]

end Sys2Proof.Safety

open Sys2Proof Sys2Proof.Machine Sys2Proof.Safety

/-- Settles O22, by the state of the hold, then by the transaction. -/
theorem holdAndReleaseResults : Obligations.HoldAndReleaseResults := by
  refine ⟨⟨fun b s hs hb => exec_hold hs (holdOp_of_badMode hb), fun drop s hs hsound => ?_⟩, fun s hs => ?_⟩
  · obtain ⟨hp, -⟩ := id hs
    have mode := holdModeOf_flag drop
    refine ⟨fun hh => exec_hold hs (holdOp_of_held mode hh), fun hh ht => ?_, fun t ht hh hseal => ?_,
      fun t ht hh ho hk => ?_, fun t ht hh ho hk => ?_, fun t ht hh ho hseal => ?_, fun hh => ?_,
      fun hh hk hseal => ?_, fun t ht hh hk ho => ?_, fun t ht hh hk ho hseal => ?_⟩
    · exact exec_hold_of_walk hs ((holdOp_of_notHeld mode hh).trans (newHold_of_noTxn hp ht))
    · exact exec_hold hs ((holdOp_of_notHeld mode hh).trans (newHold_of_sealing hsound ht hseal))
    · subst hk
      exact exec_hold_of_walk hs ((holdOp_of_notHeld mode hh).trans (newHold_keep_of_open hp ht ho))
    · subst hk
      exact exec_hold_of_walk hs ((holdOp_of_notHeld mode hh).trans (newHold_drop_of_open hp hsound ht ho))
    · obtain ⟨d, hd⟩ := filling_of_not ho hseal
      cases drop with
      | false => exact exec_hold hs ((holdOp_of_notHeld mode hh).trans (newHold_keep_of_filling hsound ht hd))
      | true => exact exec_hold hs ((holdOp_of_notHeld mode hh).trans (newHold_drop_of_filling hp hsound ht hd))
    · rcases hh with hh | ⟨hh, hk⟩
      · exact exec_hold hs (holdOp_of_pendingDrop mode hh)
      · subst hk
        exact exec_hold hs (holdOp_of_pendingKeep mode hh)
    · subst hk
      exact exec_hold hs ((holdOp_of_pendingKeep mode hh).trans (upgradeHold_of_sealing hseal))
    · subst hk
      exact exec_hold hs ((holdOp_of_pendingKeep mode hh).trans (upgradeHold_of_open hp hsound ht ho))
    · subst hk
      obtain ⟨d, hd⟩ := filling_of_not ho hseal
      exact exec_hold hs ((holdOp_of_pendingKeep mode hh).trans (upgradeHold_of_filling hp hsound ht hd))
  · obtain ⟨hp, -⟩ := id hs
    refine ⟨fun hh => exec_release hs ?_, fun m hh => exec_release hs ?_, fun hh ho => exec_release hs ?_⟩
    · simp [releaseOp, hh]
    · simp [releaseOp, hh]
    · exact releaseOp_of_held hp hh ho

/-- Settles O23: the checks one after another, and the read when none fails. -/
theorem slotReadResult : Obligations.SlotReadResult := by
  intro slot count offset s hs
  have hpower := slotReadOp_power slot offset count s
  exact ⟨fun ho => next_runLink _ hs hpower (slotReadOp_refused slot count offset s ho),
    fun d hd hh h1 h32 => next_runLink _ hs hpower (slotReadOp_of_saved hh hd h1 h32)⟩
end

section
/-! Pages of the three walks from any point, their ends, and a commit from COMMIT to its switch. -/

namespace Sys2Proof.Safety

open Sys2Proof.Machine

/-! ### The end of a walk -/

/-- The end of a walk at the hold, while the main supply is present (R39). -/
theorem grantPending_eq {s : State} (hp : s.power ≠ .off) : grantPending s = grantedAtEnd s := by
  cases hh : s.hold with
  | notHeld => simp only [grantPending, grantedAtEnd, hh]
  | held m => simp only [grantPending, grantedAtEnd, hh]
  | pending m =>
    rw [grantPending_of_pending hh, grantHold_eq m hp]
    simp only [granted, grantedAtEnd, hh]
    cases s.txn with
    | none => rfl
    | some t => cases hd : t.phase <;> simp [Txn.isOpen, hd]

theorem grantedAtEnd_of_notHeld {s : State} (hh : s.hold = .notHeld) : grantedAtEnd s = s := by
  simp only [grantedAtEnd, hh]

/-! ### A page of the fill walk -/

theorem fillComplete_eq {t : Txn} {s : State} (hp : s.power ≠ .off) :
    fillComplete t s = grantedAtEnd { s with
      walk := .none, txn := some { t with phase := .opened false }
      gameEvents := s.gameEvents.post .fillDone (BitVec.ofNat 8 t.slot.val) } := by
  rw [fillComplete, grantPending_eq (by simpa using hp), postGame, if_neg (by exact hp)]

theorem grantedAtEnd_pages (s : State) : (grantedAtEnd s).pages = s.pages := by
  unfold grantedAtEnd; split <;> rfl

theorem fillWalkPage_pages {s : State} {x : Txn} (n : SlotNo) (d : Nat) (hp : s.power ≠ .off) (hx : s.txn = some x) :
    (fillWalkPage n d s).pages = fillStagingPage s x d := by
  simp only [fillWalkPage, hx]
  split
  · rfl
  · rw [fillComplete_eq (by exact hp), grantedAtEnd_pages]

/-- A page of the fill walk, but for the bytes of pages (R26, R27). -/
theorem fillWalkPage_eq {s : State} {x : Txn} (n : SlotNo) (d : Nat) (hp : s.power ≠ .off) (hx : s.txn = some x) :
    fillWalkPage n d s = if d + 1 < x.staging.length then
        { s with
          pages := (fillWalkPage n d s).pages, walk := .fill n (d + 1), txn := some { x with phase := .filling (d + 1) } }
      else grantedAtEnd { s with
        pages := (fillWalkPage n d s).pages, walk := .none, txn := some { x with phase := .opened false }
        gameEvents := s.gameEvents.post .fillDone (BitVec.ofNat 8 x.slot.val) } := by
  rw [fillWalkPage_pages n d hp hx]
  simp only [fillWalkPage, hx]
  split
  · rfl
  · exact fillComplete_eq hp

/-- The bytes a page of the fill walk leaves: those of its page of the staging list, and no other byte changed (R26). -/
theorem pageByte_fillWalkPage {s : State} {x : Txn} {d : Nat} {p : Page} (n : SlotNo) (hp : s.power ≠ .off)
    (hx : s.txn = some x) (hm : MemoriesSound s) (hd : x.staging[d]? = some p) (q : Page) {o : Nat} (ho : o < 512) :
    pageByte (fillWalkPage n d s).pages q o = if q ≠ p then pageByte s.pages q o else fillByte s x d o := by
  obtain ⟨hpages, -⟩ := hm
  simp only [fillWalkPage_pages n d hp hx, fillStagingPage, hd]
  rw [pageByte_fillPage _ p q (Nat.le_refl 512) ho hpages]
  by_cases hq : q = p <;> simp [hq, ho]

/-! ### A page of the check walk -/

/-- The switch of a transaction, with the sums of its check walk (R33). -/
theorem switchSlot_eq {s : State} (t : Txn) (ab : Nat × Nat) (hp : s.power ≠ .off) :
    switchSlot t ab s = grantedAtEnd (switched t (checkOfSums ab) s) := by
  have generation : nextGeneration s.slots[t.slot] = (s.slots[t.slot].map fun d => d.generation + 1).getD 0 := by
    cases s.slots[t.slot] <;> rfl
  have date : stampDate s = if s.calendar = .running then some s.clock.now.date else none := by
    cases hc : s.calendar <;> simp [stampDate, hc]
  have check : checkValue ab = checkOfSums ab := rfl
  simp only [switchSlot, switched, generation, date, check]
  rw [grantPending_eq (by simpa using hp), postGame, if_neg (by simpa using hp)]
  rfl

theorem checkWalkPage_eq {s : State} {x : Txn} {p : Page} {d : Nat} (n : SlotNo) (a b : Nat) (hp : s.power ≠ .off)
    (hx : s.txn = some x) (hd : x.staging[d]? = some p) :
    checkWalkPage n d a b s =
      let ab := sumsOf (a, b) (pageData s.pages p)
      if d + 1 < x.staging.length then
        { s with walk := .check n (d + 1) ab.1 ab.2, txn := some { x with phase := .sealing (d + 1) } }
      else grantedAtEnd (switched x (checkOfSums ab) s) := by
  simp only [checkWalkPage, hx, sumListPage, hd, sumPage_eq, switchSlot_eq x _ hp]

/-! ### The end of a VERIFY walk -/

/-- The end of a VERIFY walk at any state of the hold (R12, R39). -/
theorem verifyComplete_grantedAtEnd {n : SlotNo} {y : SlotData} {s : State} (ab : Nat × Nat) (hp : s.power ≠ .off)
    (hy : s.slots[n] = some y) : verifyComplete n ab s = grantedAtEnd (verified n y (checkOfSums ab) s) := by
  have check : checkValue ab = checkOfSums ab := rfl
  simp only [verifyComplete, hy, check]
  by_cases hc : checkOfSums ab = y.check
  · rw [if_pos hc, grantPending_eq (by exact hp)]
    simp [verified, setSlot, hc]
  · rw [if_neg hc, grantPending_eq (by simpa using hp)]
    simp [verified, setSlot, postGame, hc, hp]

/-! ### A whole check walk -/

/-- A check walk that stands at page `d` of the staging list of `x` with sums A and B (R32). -/
def sealingAt (x : Txn) (d : Nat) (ab : Nat × Nat) (s : State) : State :=
  { s with txn := some { x with phase := .sealing d }, walk := .check x.slot d ab.1 ab.2 }

/-- The pages a check walk has left, from any point of it: the switch with the sums taken on over them (R33). -/
theorem walkPages_check {x : Txn} {s : State} (hp : s.power ≠ .off) (hh : s.hold = .notHeld) (ps : List Page) (p : Page)
    (d : Nat) (ab : Nat × Nat) (hd : x.staging.drop d = p :: ps) :
    walkPages (ps.length + 1) (sealingAt x d ab s)
      = switched x (checkOfSums (sumsOf ab (dataOf s.pages (p :: ps)))) s := by
  have here : x.staging[d]? = some p := by rw [← List.head?_drop, hd]; rfl
  have next : x.staging.drop (d + 1) = ps := by rw [← List.tail_drop, hd]; rfl
  have length : x.staging.length - (d + 1) = ps.length := by rw [← List.length_drop, next]
  rw [dataOf_cons, sumsOf_append]
  show walkPages ps.length (checkWalkPage x.slot d ab.1 ab.2 (sealingAt x d ab s)) = _
  rw [checkWalkPage_eq (x := { x with phase := .sealing d }) x.slot ab.1 ab.2 (by exact hp) rfl here]
  cases ps with
  | nil =>
    rw [if_neg (by rw [List.length_nil] at length; dsimp only; omega), dataOf_nil, sumsOf_nil]
    exact grantedAtEnd_of_notHeld hh
  | cons q qs =>
    rw [if_pos (by rw [List.length_cons] at length; dsimp only; omega)]
    exact walkPages_check hp hh qs q (d + 1) _ next

/-- COMMIT of a transaction in an idle store (R31, R32). -/
theorem commitOp_idle {s : State} {x : Txn} (hh : s.hold = .notHeld) (hw : s.walk = .none) (hx : s.txn = some x) :
    commitOp s = (sealingAt x 0 (0, 0) s, .ok) := by
  simp [commitOp, storeHeld, hh, walkInFlight, hw, hx, sealingAt]

end Sys2Proof.Safety

open Sys2Proof Sys2Proof.Machine Sys2Proof.Safety

/-- Settles O24, walk by walk. -/
theorem walkPageResults : Obligations.WalkPageResults := by
  refine ⟨fun s hp _ hm x hx n d hw => ?_, fun s hp _ x hx n d a b hw p hd => ?_, fun s hp n d a b hw y hy p hd => ?_⟩
  · have page : walkPageOp s = fillWalkPage n d s := by simp only [walkPageOp, hw]
    refine ⟨fillWalkPage n d s, congrArg Host.Outcome.next page, fun p hd q o ho => ?_, fillWalkPage_eq n d hp hx⟩
    refine (pageByte_fillWalkPage n hp hx hm hd q ho).trans ?_
    unfold fillByte
    cases x.mode with
    | plain => rfl
    | copy => cases (slotPages s x.slot)[d]? <;> rfl
  · have page : walkPageOp s = checkWalkPage n d a b s := by simp only [walkPageOp, hw]
    exact congrArg Host.Outcome.next (page.trans (checkWalkPage_eq n a b hp hx hd))
  · have page : walkPageOp s = verifyWalkPage n d a b s := by simp only [walkPageOp, hw]
    refine congrArg Host.Outcome.next (page.trans ((verifyWalkPage_eq hy hd).trans ?_))
    simp only [verifyComplete_grantedAtEnd _ hp hy]

/-- Settles O26: the taking starts the walk at sums of 0, and its pages take the check of the staged data. -/
theorem commitSwitchesTheSlot : Obligations.CommitSwitchesTheSlot := by
  intro r s hs hh hw x hx _ hlen
  have taken : after (.commit r) s = sealingAt x 0 (0, 0) (reported r 0x11 .ok s) := by
    show runBus r 0x11 commitOp s = _
    rw [runBus_ready r 0x11 commitOp hs (by rw [commitOp_power]; exact hs.1), commitOp_idle hh hw hx]
    rfl
  show afterAll (List.replicate x.staging.length .walkPage) (after (.commit r) s) = _
  rw [taken, afterAll_walkPage]
  cases hp : x.staging with
  | nil => simp [hp] at hlen
  | cons p ps => exact walkPages_check (s := reported r 0x11 .ok s) hs.1 hh ps p 0 (0, 0) (by rw [hp]; rfl)
end

section
/-! The dates of day numbers (R47, R48), and the first dates after now with a given time of day (R84). -/

namespace Sys2Proof.Machine

open Sys2Proof.Safety

/-! ### Years and months -/

theorem daysBeforeMonth_succ (y m : Nat) : daysBeforeMonth y (m + 1) = daysBeforeMonth y m + monthLength y m := rfl

theorem daysBeforeMonth_mono (y : Nat) {m n : Nat} (h : m ≤ n) : daysBeforeMonth y m ≤ daysBeforeMonth y n := by
  induction h with
  | refl => exact Nat.le_refl _
  | step _ ih => exact Nat.le_trans ih (Nat.le_add_right ..)

/-- The twelve months of a year are its days: those before the next year's first (R47). -/
theorem daysBeforeMonth_year (y : Nat) : daysBeforeYear y + daysBeforeMonth y 13 = daysBeforeYear (y + 1) := by
  by_cases h : y % 4 = 0 <;> simp [daysBeforeMonth, monthLength, isLeap, daysBeforeYear, h] <;> omega

/-- The year of a day number is the one the day lies in. -/
theorem yearOfDay_spec {n : Nat} (h : n < 36525) :
    yearOfDay n ≤ 99 ∧ daysBeforeYear (yearOfDay n) ≤ n ∧ n < daysBeforeYear (yearOfDay n + 1) := by
  unfold yearOfDay daysBeforeYear
  split <;> omega

/-- Month and day of the days from month `m` on to the end of the year. -/
theorem monthAndDay_spec (y : Nat) {f m days : Nat} (hm : 1 ≤ m) (hf : m + f = 12)
    (hd : daysBeforeMonth y m + days < daysBeforeMonth y 13) :
    let md := monthAndDay y f m days
    1 ≤ md.1 ∧ md.1 ≤ 12 ∧ 1 ≤ md.2 ∧ md.2 ≤ monthLength y md.1
      ∧ daysBeforeMonth y md.1 + (md.2 - 1) = daysBeforeMonth y m + days := by
  induction f generalizing m days with
  | zero =>
    obtain rfl : m = 12 := by omega
    have last : daysBeforeMonth y 13 = daysBeforeMonth y 12 + monthLength y 12 := daysBeforeMonth_succ y 12
    simp only [monthAndDay]
    omega
  | succ f ih =>
    simp only [monthAndDay]
    split
    · dsimp only; omega
    · have next := daysBeforeMonth_succ y m
      have := ih (m := m + 1) (days := days - monthLength y m) (by omega) (by omega) (by omega)
      simp only at this ⊢
      omega

/-! ### Day numbers and dates -/

/-- A day number of the range is that of its date, which exists (R47, R48). -/
theorem dateOfDay_spec {n : Nat} (h : n < 36525) : (dateOfDay n).valid = true ∧ dayNumber (dateOfDay n) = n := by
  obtain ⟨hy, hfirst, hlast⟩ := yearOfDay_spec h
  have year := daysBeforeMonth_year (yearOfDay n)
  have first : daysBeforeMonth (yearOfDay n) 1 = 0 := rfl
  obtain ⟨hm1, hm12, hd1, hdlen, hdays⟩ :=
    monthAndDay_spec (yearOfDay n) (f := 11) (days := n - daysBeforeYear (yearOfDay n)) (Nat.le_refl 1) rfl (by omega)
  refine ⟨decide_eq_true ⟨hy, hm1, hm12, hd1, hdlen⟩, ?_⟩
  simp only [dayNumber, dateOfDay]
  omega

theorem dateOfDay_valid {n : Nat} (h : n < 36525) : (dateOfDay n).valid = true := (dateOfDay_spec h).1

theorem dayNumber_dateOfDay {n : Nat} (h : n < 36525) : dayNumber (dateOfDay n) = n := (dateOfDay_spec h).2

theorem dayNumber_lt {d : Date} (h : d.valid = true) : dayNumber d < 36525 := by
  obtain ⟨hy, -, hm, hd1, hdlen⟩ := of_decide_eq_true h
  have month := daysBeforeMonth_succ d.year d.month
  have rest := daysBeforeMonth_mono d.year (show d.month + 1 ≤ 13 by omega)
  have year := daysBeforeMonth_year d.year
  unfold dayNumber
  unfold daysBeforeYear at *
  omega

theorem dayNumber_now_lt {t : DateTime} (h : t.valid = true) : dayNumber t.date < 36525 :=
  dayNumber_lt (Bool.and_eq_true_iff.1 h).1

theorem secondOfDay_lt {t : DateTime} (h : t.valid = true) : secondOfDay t < 86400 := by
  have := of_decide_eq_true (Bool.and_eq_true_iff.1 h).2
  unfold secondOfDay
  omega

/-! ### The first date after now -/

section
variable {now t : DateTime}

/-- Seconds to a time of day, by the days from the first date on which it comes after now (R84). -/
theorem secondsUntil_eq {v : DateTime} {k : Nat} (hn : now.valid = true) (hv : v.valid = true)
    (hs : secondOfDay v = secondOfDay t) (hk : k < 36525) (hd : dayNumber v.date = (nextDayFor now t + k) % 36525) :
    instant now + secondsUntil now v = (nextDayFor now t + k) * 86400 + secondOfDay t := by
  have hday := dayNumber_now_lt hn
  have ha := secondOfDay_lt hn
  have hb := secondOfDay_lt hv
  unfold secondsUntil instant
  rw [hd, ← hs]
  unfold nextDayFor
  rw [← hs]
  split <;> omega

/-- Every date is some days, fewer than the range has, after any day number up to the range's end. -/
theorem exists_daysAfter {v : DateTime} (hv : v.valid = true) {d : Nat} (hd : d ≤ 36525) :
    ∃ k < 36525, dayNumber v.date = (d + k) % 36525 := by
  have := dayNumber_now_lt hv
  exact ⟨(dayNumber v.date + 36525 - d) % 36525, Nat.mod_lt _ (by decide), by omega⟩

theorem nextDayFor_le (hn : now.valid = true) : nextDayFor now t ≤ 36525 := by
  have := dayNumber_now_lt hn
  unfold nextDayFor
  split <;> omega

/-- The due that stands `k` days after the first date on which the time of day of `t` comes after now. -/
def dueAfterDays (now t : DateTime) (k : Nat) : DateTime :=
  { t with date := dateOfDay ((nextDayFor now t + k) % rangeDays) }

theorem dayNumber_dueAfterDays (now t : DateTime) (k : Nat) :
    dayNumber (dueAfterDays now t k).date = (nextDayFor now t + k) % 36525 :=
  dayNumber_dateOfDay (Nat.mod_lt _ (by decide))

theorem dueAfterDays_valid (now : DateTime) (k : Nat) (ht : t.valid = true) : (dueAfterDays now t k).valid = true :=
  Bool.and_eq_true_iff.2 ⟨dateOfDay_valid (Nat.mod_lt _ (by decide)), (Bool.and_eq_true_iff.1 ht).2⟩

/-- A due `k` days on is first of all dates of its time of day that are not fewer days on (R84). -/
theorem secondsUntil_dueAfterDays_le {v : DateTime} {k j : Nat} (hn : now.valid = true) (ht : t.valid = true)
    (hv : v.valid = true) (hs : secondOfDay v = secondOfDay t) (hj : j < 36525)
    (hd : dayNumber v.date = (nextDayFor now t + j) % 36525) (hkj : k ≤ j) :
    secondsUntil now (dueAfterDays now t k) ≤ secondsUntil now v := by
  have hu := secondsUntil_eq hn (dueAfterDays_valid now k ht) (t := t) rfl (Nat.lt_of_le_of_lt hkj hj)
    (dayNumber_dueAfterDays now t k)
  have hw := secondsUntil_eq hn hv hs hj hd
  omega

theorem nextDaily_eq (now t : DateTime) : nextDaily now t = dueAfterDays now t 0 := rfl

/-- Days from the first date to the first with the weekday of the due that fired (R84). -/
def daysToWeekday (now t : DateTime) : Nat :=
  ((List.range 14).find? fun k => (6 + (nextDayFor now t + k) % rangeDays) % 7 == weekdayOf t.date).getD 0

theorem nextWeekly_eq (now t : DateTime) : nextWeekly now t = dueAfterDays now t (daysToWeekday now t) := rfl

/-- Of any fourteen dates in the clock's sequence some has a given weekday: seven of them in a row are on one side of the
wrap. -/
theorem exists_weekday {d w : Nat} (hd : d ≤ 36525) (hw : w < 7) : ∃ k < 14, (6 + (d + k) % 36525) % 7 = w := by
  by_cases h : d + 6 < 36525
  · exact ⟨(w + 7 - (6 + d) % 7) % 7, by omega, by omega⟩
  · exact ⟨36525 - d + (w + 1) % 7, by omega, by omega⟩

theorem daysToWeekday_spec (hn : now.valid = true) :
    (6 + (nextDayFor now t + daysToWeekday now t) % 36525) % 7 = weekdayOf t.date
      ∧ ∀ j, (6 + (nextDayFor now t + j) % 36525) % 7 = weekdayOf t.date → daysToWeekday now t ≤ j := by
  obtain ⟨k, hk, hwk⟩ := exists_weekday (nextDayFor_le (t := t) hn) (Nat.mod_lt _ (by decide) : weekdayOf t.date < 7)
  unfold daysToWeekday
  cases hf : (List.range 14).find? fun k => (6 + (nextDayFor now t + k) % rangeDays) % 7 == weekdayOf t.date with
  | none => exact absurd (beq_iff_eq.2 hwk) (List.find?_eq_none.1 hf k (List.mem_range.2 hk))
  | some n =>
    obtain ⟨hweekday, -, hfirst⟩ := List.find?_range_eq_some.1 hf
    refine ⟨beq_iff_eq.1 hweekday, fun j hj => Nat.le_of_not_lt fun hlt => ?_⟩
    simpa [hj] using hfirst j hlt

end
end Sys2Proof.Machine
end

section
/-! What a fire makes of an entry, kind by kind (R83 to R85). -/

namespace Sys2Proof.Machine

open Sys2Proof.Safety

/-- A GAME entry's due after a fire: the first of its steps past the game day, or the last below the end (R85). -/
theorem reschedule_game_succ (now : DateTime) {d day : Nat} (n : Nat) (h : d ≤ day) :
    ∃ j, d + j * (n + 1) ≤ day ∧ day < d + (j + 1) * (n + 1)
      ∧ reschedule now day (.game d (n + 1)) =
        if d + (j + 1) * (n + 1) ≤ 65535 then (.armed, .game (d + (j + 1) * (n + 1)) (n + 1))
        else (.spent, .game (d + j * (n + 1)) (n + 1)) := by
  have below := Nat.div_mul_le_self (day - d) (n + 1)
  have above := Nat.lt_div_mul_add (a := day - d) (b := n + 1) (Nat.succ_pos n)
  refine ⟨(day - d) / (n + 1), by omega, by rw [Nat.succ_mul]; omega, ?_⟩
  simp only [reschedule, Nat.succ_ne_zero, if_false, Nat.succ_mul _ (n + 1), Nat.add_assoc]

theorem nextDaily_valid (now : DateTime) {t : DateTime} (ht : t.valid = true) : (nextDaily now t).valid = true := by
  rw [nextDaily_eq]; exact dueAfterDays_valid now 0 ht

theorem nextWeekly_valid (now : DateTime) {t : DateTime} (ht : t.valid = true) : (nextWeekly now t).valid = true := by
  rw [nextWeekly_eq]; exact dueAfterDays_valid now _ ht

/-- The DAILY due is first of all dates with its time of day (R84). -/
theorem nextDaily_first {now t v : DateTime} (hn : now.valid = true) (ht : t.valid = true) (hv : v.valid = true)
    (hs : secondOfDay v = secondOfDay t) : secondsUntil now (nextDaily now t) ≤ secondsUntil now v := by
  obtain ⟨j, hj, hd⟩ := exists_daysAfter hv (nextDayFor_le (t := t) hn)
  rw [nextDaily_eq]
  exact secondsUntil_dueAfterDays_le hn ht hv hs hj hd (Nat.zero_le j)

theorem weekdayOf_nextWeekly {now : DateTime} (t : DateTime) (hn : now.valid = true) :
    weekdayOf (nextWeekly now t).date = weekdayOf t.date := by
  rw [nextWeekly_eq, weekdayOf, dayNumber_dueAfterDays]
  exact (daysToWeekday_spec hn).1

/-- The WEEKLY due is first of all dates with its time of day and weekday (R84). -/
theorem nextWeekly_first {now t v : DateTime} (hn : now.valid = true) (ht : t.valid = true) (hv : v.valid = true)
    (hs : secondOfDay v = secondOfDay t) (hw : weekdayOf v.date = weekdayOf t.date) :
    secondsUntil now (nextWeekly now t) ≤ secondsUntil now v := by
  obtain ⟨j, hj, hd⟩ := exists_daysAfter hv (nextDayFor_le (t := t) hn)
  rw [nextWeekly_eq]
  refine secondsUntil_dueAfterDays_le hn ht hv hs hj hd ((daysToWeekday_spec hn).2 j ?_)
  rw [← hw, ← hd, weekdayOf]

end Sys2Proof.Machine

open Sys2Proof Sys2Proof.Machine Sys2Proof.Safety

/-- Settles O37, by the kind of the entry and its repeat. -/
theorem fireReschedules : Obligations.FireReschedules := by
  intro a power now day
  refine ⟨rfl, rfl, rfl, rfl, ?_⟩
  simp only [AlarmEntry.fired]
  match a.due with
  | .real t .none => exact ⟨rfl, rfl⟩
  | .real t .daily =>
    exact fun hn ht => ⟨nextDaily now t, rfl, rfl, nextDaily_valid now ht, rfl, fun v hv hs =>
      nextDaily_first hn ht hv hs⟩
  | .real t .weekly =>
    exact fun hn ht => ⟨nextWeekly now t, rfl, rfl, nextWeekly_valid now ht, rfl, weekdayOf_nextWeekly t hn,
      fun v hv hs hw => nextWeekly_first hn ht hv hs hw⟩
  | .game d 0 => exact ⟨rfl, rfl⟩
  | .game d (n + 1) =>
    intro hd _
    obtain ⟨j, hlow, hhigh, hr⟩ := reschedule_game_succ now n hd
    refine ⟨j, ?_⟩
    simp only [hr]
    split
    · next hfits => exact .inl ⟨rfl, rfl, hlow, hhigh, hfits⟩
    · next hpast => exact .inr ⟨rfl, rfl, hlow, Nat.lt_of_not_le hpast⟩
  | .countdown _ none => exact ⟨rfl, rfl⟩
  | .countdown _ (some r) => exact ⟨rfl, rfl⟩
end

section
/-! What one fire does to the whole state (R83). -/

namespace Sys2Proof.Machine

open Sys2Proof.Safety

theorem posted_append (es fs : List (EventKind × Byte)) (q : EventRecord) :
    posted (es ++ fs) q = posted fs (posted es q) := List.foldl_append

/-- A start of a pattern in ACTIVE (R146): its first step, or the end of an empty pattern with RUMBLE_END. -/
theorem startPattern_of_active {s : State} (p : Fin 4) (n : Nat) (hp : s.power = .active) :
    startPattern p n s = if stepDuration s p 0 = 0 then
        { s with
          rumble := (withMode .off 0 s).rumble
          gameEvents := s.gameEvents.post .rumbleEnd (BitVec.ofNat 8 p.val) }
      else { s with rumble := (withMode (loadedStep s p n 0) (min (stepLevelByte s p 0).toNat 15) s).rumble } := by
  unfold startPattern loadFirst
  split
  · simp [endPattern, postGame, formLevel, effectiveLevel, modeLevel, withMode, formedLevel, hp]
  · simp [loadStep, formLevel, effectiveLevel, modeLevel, withMode, formedLevel, loadedStep]

/-- The rumble record after the action of a fire (R83, R152). -/
def actionRumble (a : AlarmEntry) (s : State) : RumbleRecord :=
  match a.action with
  | none => s.rumble
  | some p =>
    if s.power ≠ .active then s.rumble
    else if stepDuration s p 0 = 0 then (withMode .off 0 s).rumble
    else (withMode (loadedStep s p 1 0) (min (stepLevelByte s p 0).toNat 15) s).rumble

/-- The posts of the action of a fire to the game queue: RUMBLE_END in ACTIVE after an empty pattern (R146). -/
def actionPosts (a : AlarmEntry) (s : State) : List (EventKind × Byte) :=
  match a.action with
  | none => []
  | some p => if s.power = .active ∧ stepDuration s p 0 = 0 then [(.rumbleEnd, BitVec.ofNat 8 p.val)] else []

section
variable {s : State} {e : Fin 8} {a : AlarmEntry}

/-- An action acts by power state, pattern memory and rumble record, whatever the queues hold (R83, R146). -/
theorem performAction_withQueues (a : AlarmEntry) (s : State) (g y : EventRecord) :
    performAction a { s with gameEvents := g, systemEvents := y }
      = { s with rumble := actionRumble a s, gameEvents := posted (actionPosts a s) g, systemEvents := y } := by
  unfold performAction actionRumble actionPosts
  cases a.action with
  | none => rfl
  | some p =>
    by_cases hp : s.power = .active
    · dsimp only
      rw [if_pos hp, startPattern_of_active p 1 (by exact hp), if_neg (show ¬s.power ≠ .active from fun h => h hp)]
      by_cases hd : stepDuration s p 0 = 0
      · rw [if_pos (by exact hd), if_pos hd, if_pos ⟨hp, hd⟩]; rfl
      · rw [if_neg (by exact hd), if_neg hd, if_neg fun h => hd h.2]; rfl
    · simp [hp, posted]

theorem performAction_of_off (a : AlarmEntry) (h : s.power = .off) : performAction a s = s := by
  unfold performAction
  cases a.action <;> simp [h]

theorem postTo_of_off (m : Master) (k : EventKind) (d : Byte) (h : s.power = .off) : postTo m k d s = s := by
  cases m <;> exact if_pos h

theorem postTo_of_on (m : Master) (k : EventKind) (d : Byte) (h : s.power ≠ .off) :
    postTo m k d s = { s with
      gameEvents := posted (if m = .game then [(k, d)] else []) s.gameEvents
      systemEvents := posted (if m = .system then [(k, d)] else []) s.systemEvents } := by
  cases m <;> exact if_neg h

theorem firePosts_singleton (m : Master) (h : s.alarms[e] = some a) :
    firePosts m s [e] = (if a.owner = m then [(EventKind.alarm, BitVec.ofNat 8 e.val)] else [])
      ++ if m = .game then actionPosts a s else [] := by
  simp only [firePosts, List.flatMap_singleton, h, actionPosts]
  cases a.action <;> cases m <;> simp

theorem rumbleAfterFires_singleton (h : s.alarms[e] = some a) : rumbleAfterFires s [e] = actionRumble a s := by
  have actions : [e].filterMap (fun f => s.alarms[f].bind AlarmEntry.action) = a.action.toList := by
    cases hx : a.action with
    | none => exact List.filterMap_cons_none (by rw [h]; exact hx)
    | some p => exact List.filterMap_cons_some (by rw [h]; exact hx)
  rw [rumbleAfterFires, actions, actionRumble]
  cases a.action <;> rfl

theorem actionRumble_of_off (a : AlarmEntry) (h : s.power = .off) : actionRumble a s = s.rumble := by
  unfold actionRumble
  cases a.action <;> simp [h]

/-- A fire whole (R83): the entry rescheduled, the rumble record after its action, and its posts. -/
theorem fireAlarm_of_some (h : s.alarms[e] = some a) :
    fireAlarm s e = { s with
      alarms := s.alarms.set e.val (some (a.fired s.power s.clock.now s.gameDay.day)) e.isLt
      rumble := rumbleAfterFires s [e]
      gameEvents := queueAfter s (firePosts .game s [e]) s.gameEvents
      systemEvents := queueAfter s (firePosts .system s [e]) s.systemEvents } := by
  rw [rumbleAfterFires_singleton h, firePosts_singleton .game h, firePosts_singleton .system h]
  simp only [fireAlarm, h, queueAfter]
  by_cases hoff : s.power = .off
  · rw [postTo_of_off _ _ _ hoff, performAction_of_off a hoff, actionRumble_of_off a hoff]
    simp [hoff, setAlarm]
  · rw [postTo_of_on _ _ _ hoff, performAction_withQueues]
    simp [hoff, setAlarm, posted_append]

/-- A countdown that has run out fires as its entry does, whatever seconds it shows (R82, R85). -/
theorem fired_of_countdown {n : Nat} {r : Option Nat} (power : PowerState) (now : DateTime) (day : Nat)
    (hd : a.due = .countdown n r) :
    AlarmEntry.fired { a with due := .countdown 0 r } power now day = a.fired power now day := by
  cases r <;> simp [AlarmEntry.fired, reschedule, lateAt, hd]

end

/-! ### The row of a countdown's expiry -/

section
variable {s : State} {e : Fin 8} {a : AlarmEntry}

theorem countdownExpiryOp_of_lost (h : s.retention = .lost) : countdownExpiryOp e s = s := if_pos h

theorem countdownExpiryOp_of_free (h : s.alarms[e] = none) : countdownExpiryOp e s = s := by
  simp only [countdownExpiryOp, h, ite_self]

theorem countdownExpiryOp_of_spent (h : s.alarms[e] = some a) (ha : a.state = .spent) : countdownExpiryOp e s = s := by
  simp only [countdownExpiryOp, h, ha, ite_self]

/-- An entry whose due is no countdown of one second or less is left. -/
theorem countdownExpiryOp_of_waiting (h : s.alarms[e] = some a) (hd : ∀ n r, a.due = .countdown n r → 2 ≤ n) :
    countdownExpiryOp e s = s := by
  cases ha : a.state with
  | spent => exact countdownExpiryOp_of_spent h ha
  | armed =>
    simp only [countdownExpiryOp, h, ha]
    cases hx : a.due with
    | countdown n r => simp only [Nat.not_le.2 (hd n r hx), if_false, ite_self]
    | real t r => exact ite_self s
    | game d r => exact ite_self s

/-- The last second of an ARMED countdown fires it (R82, R83). -/
theorem countdownExpiryOp_of_last {n : Nat} {r : Option Nat} (hk : s.retention = .kept) (h : s.alarms[e] = some a)
    (ha : a.state = .armed) (hd : a.due = .countdown n r) (hn : n ≤ 1) :
    countdownExpiryOp e s = { s with
      alarms := s.alarms.set e.val (some (a.fired s.power s.clock.now s.gameDay.day)) e.isLt
      rumble := rumbleAfterFires s [e]
      gameEvents := queueAfter s (firePosts .game s [e]) s.gameEvents
      systemEvents := queueAfter s (firePosts .system s [e]) s.systemEvents } := by
  have ran : (setAlarm e (some { a with due := .countdown 0 r }) s).alarms[e] = some { a with due := .countdown 0 r } := by
    simp
  have fires : countdownExpiryOp e s = fireAlarm (setAlarm e (some { a with due := .countdown 0 r }) s) e := by
    simp only [countdownExpiryOp, hk, h, ha, hd, if_pos hn, reduceCtorEq, if_false]
  rw [fires, fireAlarm_of_some ran, rumbleAfterFires_singleton ran, rumbleAfterFires_singleton h]
  simp only [firePosts_singleton _ ran, firePosts_singleton _ h, fired_of_countdown _ _ _ hd, setAlarm_alarms,
    Vector.set_set]
  rfl

end
end Sys2Proof.Machine

open Sys2Proof Sys2Proof.Machine Sys2Proof.Safety

/-- Settles O38, by the state and the due of the entry. -/
theorem countdownExpiryFires : Obligations.CountdownExpiryFires := by
  intro s e
  have row {t : State} (h : countdownExpiryOp e s = t) : exec (.countdownExpiry e) s = .next t := congrArg _ h
  refine ⟨fun hl => row (countdownExpiryOp_of_lost hl), fun hf => row (countdownExpiryOp_of_free hf),
    fun a h => ⟨fun ha => row (countdownExpiryOp_of_spent h ha), fun n r hd hk ha hn => ?_, fun n r hd hn => ?_,
      fun x r hd => ?_, fun x r hd => ?_⟩⟩
  · exact row (countdownExpiryOp_of_last hk h ha hd hn)
  · refine row (countdownExpiryOp_of_waiting h fun m q hm => ?_)
    obtain ⟨rfl, -⟩ := AlarmDue.countdown.inj (hd.symm.trans hm)
    exact hn
  · exact row (countdownExpiryOp_of_waiting h fun m q hm => by cases hd.symm.trans hm)
  · exact row (countdownExpiryOp_of_waiting h fun m q hm => by cases hd.symm.trans hm)
end

section
/-! The due list (R79): the ARMED entries, sorted by a key that says which of two entries stands first. -/

namespace Sys2Proof.Machine

open Sys2Proof.Safety

/-! ### The list and its entries -/

/-- The order of keyed entries. -/
abbrev KeyLe (x y : Nat × Fin 8) : Prop := x.1 ≤ y.1

theorem insertDue_perm (x : Nat × Fin 8) (l : List (Nat × Fin 8)) : (insertDue x l).Perm (x :: l) := by
  induction l with
  | nil => exact .refl _
  | cons y l ih =>
    unfold insertDue
    split
    · exact .refl _
    · exact (ih.cons y).trans (.swap x y l)

theorem insertDue_sorted (x : Nat × Fin 8) {l : List (Nat × Fin 8)} (h : l.Pairwise KeyLe) :
    (insertDue x l).Pairwise KeyLe := by
  induction l with
  | nil => exact List.pairwise_singleton KeyLe x
  | cons y l ih =>
    obtain ⟨hy, hl⟩ := List.pairwise_cons.1 h
    unfold insertDue
    split
    · next hxy =>
      refine List.pairwise_cons.2 ⟨fun z hz => ?_, h⟩
      rcases List.mem_cons.1 hz with rfl | hz
      · exact hxy
      · exact Nat.le_trans hxy (hy z hz)
    · next hxy =>
      refine List.pairwise_cons.2 ⟨fun z hz => ?_, ih hl⟩
      rcases List.mem_cons.1 ((insertDue_perm x l).mem_iff.1 hz) with rfl | hz
      · exact Nat.le_of_not_le hxy
      · exact hy z hz

/-- The ARMED entries with their keys, in the order of the keys. -/
def sortedKeys (s : State) : List (Nat × Fin 8) := ((List.finRange 8).filterMap (armedKey s)).foldr insertDue []

theorem dueList_eq (s : State) : dueList s = (sortedKeys s).map Prod.snd := rfl

theorem foldr_insertDue_perm (l : List (Nat × Fin 8)) : (l.foldr insertDue []).Perm l := by
  induction l with
  | nil => exact .refl _
  | cons x l ih => exact (insertDue_perm x _).trans (ih.cons x)

theorem sortedKeys_sorted (s : State) : (sortedKeys s).Pairwise KeyLe := by
  unfold sortedKeys
  induction (List.finRange 8).filterMap (armedKey s) with
  | nil => exact .nil
  | cons x l ih => exact insertDue_sorted x ih

/-- Entry `e` is ARMED. -/
def isArmed (s : State) (e : Fin 8) : Bool := s.alarms[e].any fun a => decide (a.state = .armed)

theorem armedKey_map_snd (s : State) (e : Fin 8) :
    (armedKey s e).map Prod.snd = if isArmed s e then some e else none := by
  unfold armedKey isArmed
  cases s.alarms[e] with
  | none => rfl
  | some a => by_cases ha : a.state = .armed <;> simp [ha]

theorem armedKey_eq_some {s : State} {e f : Fin 8} {k : Nat} (h : armedKey s f = some (k, e)) :
    ∃ a, s.alarms[e] = some a ∧ k = dueKey s.clock.now e a.due := by
  unfold armedKey at h
  split at h
  · next a ha =>
    split at h
    · obtain ⟨rfl, rfl⟩ := Prod.mk.inj (Option.some.inj h)
      exact ⟨a, ha, rfl⟩
    · cases h
  · cases h

theorem filterMap_armedKey_map_snd (s : State) (l : List (Fin 8)) :
    (l.filterMap (armedKey s)).map Prod.snd = l.filter (isArmed s) := by
  induction l with
  | nil => rfl
  | cons e l ih =>
    have key := armedKey_map_snd s e
    cases hk : armedKey s e with
    | none =>
      cases ha : isArmed s e with
      | false => rw [List.filterMap_cons_none hk, List.filter_cons_of_neg (by rw [ha]; decide), ih]
      | true => rw [hk, ha] at key; cases key
    | some x =>
      cases ha : isArmed s e with
      | false => rw [hk, ha] at key; cases key
      | true =>
        have entry : x.2 = e := Option.some.inj (by rw [hk, ha] at key; exact key)
        rw [List.filterMap_cons_some hk, List.map_cons, entry, List.filter_cons_of_pos ha, ih]

/-- The due list holds the ARMED entries, each once. -/
theorem dueList_perm (s : State) : (dueList s).Perm ((List.finRange 8).filter (isArmed s)) := by
  rw [dueList_eq, ← filterMap_armedKey_map_snd]
  exact (foldr_insertDue_perm _).map Prod.snd

theorem mem_dueList {s : State} {e : Fin 8} : e ∈ dueList s ↔ isArmed s e = true :=
  (dueList_perm s).mem_iff.trans (List.mem_filter.trans (and_iff_right (List.mem_finRange e)))

theorem dueList_nodup (s : State) : (dueList s).Nodup :=
  (dueList_perm s).nodup_iff.2 ((show (List.finRange 8).Nodup by decide).filter _)

theorem mem_sortedKeys {s : State} {k : Nat} {e : Fin 8} (h : (k, e) ∈ sortedKeys s) :
    ∃ a, s.alarms[e] = some a ∧ k = dueKey s.clock.now e a.due := by
  obtain ⟨f, -, hf⟩ := List.mem_filterMap.1 ((foldr_insertDue_perm _).mem_iff.1 h)
  exact armedKey_eq_some hf

/-! ### What the keys say -/

/-- Two entries of one run, by the key of the run and then by entry number. -/
theorem before_of_runKey {e f : Fin 8} (hne : e ≠ f) {m n : Nat} (h : m * 8 + e.val ≤ n * 8 + f.val) :
    m < n ∨ m = n ∧ e < f := by
  have := Fin.val_ne_of_ne hne
  rw [Fin.lt_def]
  omega

theorem forwardDistance_lt (now t : DateTime) : forwardDistance now t < 3155760000 := Nat.mod_lt _ (by decide)

theorem gameDay_le_of_dueSound {st : AlarmState} {d every : Nat} (h : dueSound st (.game d every) = true) :
    d ≤ 65535 := (of_decide_eq_true h).1

/-- Of two entries that stand in due order by their keys the first is before the second (R79). -/
theorem dueBefore_of_dueKey {now : DateTime} {e f : Fin 8} {x y : AlarmDue} {p q : AlarmState} (hne : e ≠ f)
    (hx : dueSound p x = true) (hy : dueSound q y = true) (h : dueKey now e x ≤ dueKey now f y) :
    dueBefore now e x f y := by
  match x, y with
  | .game _ _, .game _ _ => exact before_of_runKey hne h
  | .game _ _, .real _ _ | .game _ _, .countdown _ _ | .real _ _, .countdown _ _ => trivial
  | .real t _, .real u _ =>
    exact before_of_runKey (m := forwardDistance now t) (n := forwardDistance now u) hne
      (by simp only [dueKey] at h; omega)
  | .countdown _ _, .countdown _ _ => exact before_of_runKey hne (by simp only [dueKey] at h; omega)
  | .real _ _, .game _ _ | .countdown _ _, .game _ _ =>
    have := gameDay_le_of_dueSound hy
    simp only [dueKey] at h
    omega
  | .countdown _ _, .real u _ =>
    have := forwardDistance_lt now u
    simp only [dueKey] at h
    omega

end Sys2Proof.Machine

open Sys2Proof Sys2Proof.Machine Sys2Proof.Safety

/-- Settles O36: the list is a sorting of the ARMED entries by keys that give due order. -/
theorem dueListIsTheArmedInOrder : Obligations.DueListIsTheArmedInOrder := by
  refine fun s hs => ⟨fun e => mem_dueList, ?_⟩
  have distinct := dueList_nodup s
  rw [dueList_eq] at distinct ⊢
  refine List.pairwise_map.2 (((List.pairwise_map.1 distinct).and (sortedKeys_sorted s)).imp_of_mem ?_)
  rintro ⟨k, e⟩ ⟨l, f⟩ hk hl ⟨hne, hle⟩ a ha b hb
  obtain ⟨a', ha', rfl⟩ := mem_sortedKeys hk
  obtain ⟨b', hb', rfl⟩ := mem_sortedKeys hl
  obtain rfl := Option.some.inj (ha'.symm.trans ha)
  obtain rfl := Option.some.inj (hb'.symm.trans hb)
  exact dueBefore_of_dueKey hne (hs e _ ha).1 (hs f _ hb).1 hle
end

section
/-! ALARM ARM and ALARM DISARM (R75 to R78): tables of checks, and the arming that follows when none fails. -/

namespace Sys2Proof.Machine

open Sys2Proof.Safety

theorem checked_of_ok {checks : List (Bool × OutcomeCode)} {t u s : State} (h : firstOutcome checks = .ok) (ht : t = u) :
    checked checks t s = (u, .ok) := by
  rw [checked, h, if_pos rfl, ht]

theorem checked_of_refused {checks : List (Bool × OutcomeCode)} {t s : State} (h : firstOutcome checks ≠ .ok) :
    checked checks t s = (s, firstOutcome checks) := by
  rw [checked, if_neg h]

theorem ownedByOther_eq (m : Master) (x : Option AlarmEntry) : ownedByOther m x = x.any fun a => decide (a.owner ≠ m) := by
  cases x <;> rfl

/-- The entry number a byte below 8 names. -/
theorem index_eq_ofNat {e : Byte} (h : e.toNat < 8) : (⟨e.toNat, h⟩ : Fin 8) = Fin.ofNat 8 e.toNat :=
  Fin.ext (Nat.mod_eq_of_lt h).symm

theorem alarms_set_eq {e : Byte} (h : e.toNat < 8) (x : Option AlarmEntry) (s : State) :
    s.alarms.set (Fin.ofNat 8 e.toNat).val x (Fin.isLt _) = s.alarms.setIfInBounds e.toNat x := by
  simp [Vector.setIfInBounds, Vector.set, Array.setIfInBounds, h, Nat.mod_eq_of_lt h]

theorem setAlarm_eq {e : Byte} (h : e.toNat < 8) (x : Option AlarmEntry) (s : State) :
    setAlarm (Fin.ofNat 8 e.toNat) x s = { s with alarms := s.alarms.setIfInBounds e.toNat x } := by
  rw [← alarms_set_eq h]
  rfl

/-! ### The due that ALARM ARM sends -/

theorem realRepeatOf_eq (b : Byte) :
    realRepeatOf b = match b.toNat with | 1 => .daily | 2 => .weekly | _ => .none := by
  unfold realRepeatOf
  split
  · next h => rw [h]; rfl
  · split
    · next h => rw [h]; rfl
    · next h1 h2 =>
      split
      · next h => exact absurd (BitVec.eq_of_toNat_eq h) h1
      · next h => exact absurd (BitVec.eq_of_toNat_eq h) h2
      · rfl

/-- The due armed is the due sent, for a kind that is not refused (R76). -/
theorem armedDue_eq {k : Byte} (hk : k.toNat ≤ 2) (rep b1 b2 b3 b4 b5 b6 : Byte) :
    armedDue k rep b1 b2 b3 b4 b5 b6 = sentDue k rep b1 b2 b3 b4 b5 b6 := by
  have kinds : k = 0x00 ∨ k = 0x01 ∨ k = 0x02 := by
    bv_omega
  rcases kinds with rfl | rfl | rfl
  · exact congrArg _ (realRepeatOf_eq rep)
  · exact congrArg (AlarmDue.game · _) (toNat_halfOf b1 b2)
  · simp only [armedDue, toNat_halfOf]
    rfl

theorem actionOf_eq {action : Byte} (h : action.toNat ≤ 3 ∨ action = 0xFF) :
    indexBelow 4 action = if action = 0xFF then none else some (Fin.ofNat 4 action.toNat) := by
  rcases h with h | rfl
  · have hlt : action.toNat < 4 := Nat.lt_succ_of_le h
    rw [if_neg (by rintro rfl; exact absurd h (by decide)), indexBelow_of_lt hlt]
    exact congrArg some (Fin.ext (Nat.mod_eq_of_lt hlt).symm)
  · rfl

/-! ### The entry armed -/

/-- A newly armed entry (R77). -/
def newlyArmed (m : Master) (due : AlarmDue) (action : Option (Fin 4)) : AlarmEntry :=
  { state := .armed, owner := m, due := due, action := action, missed := 0, late := false }

theorem armEntry_of_waiting {s : State} {e : Byte} {due : AlarmDue} (m : Master) (action : Option (Fin 4))
    (he : e.toNat < 8) (hd : dueAlready s due = false) :
    armEntry m (Fin.ofNat 8 e.toNat) due action s
      = { s with alarms := s.alarms.setIfInBounds e.toNat (some (newlyArmed m due action)) } := by
  rw [← setAlarm_eq he]
  simp only [armEntry, hd, newlyArmed]
  rfl

/-- An entry due already fires at its arming, in the state that holds it (R77, R83). -/
theorem armEntry_of_due {s : State} {e : Byte} {due : AlarmDue} (m : Master) (action : Option (Fin 4))
    (he : e.toNat < 8) (hp : s.power ≠ .off) (hd : dueAlready s due = true) :
    let x := newlyArmed m due action
    let u : State := { s with alarms := s.alarms.setIfInBounds e.toNat (some x) }
    armEntry m (Fin.ofNat 8 e.toNat) due action s = { s with
      alarms := s.alarms.setIfInBounds e.toNat (some (x.fired s.power s.clock.now s.gameDay.day))
      rumble := rumbleAfterFires u [Fin.ofNat 8 e.toNat]
      gameEvents := posted (firePosts .game u [Fin.ofNat 8 e.toNat]) s.gameEvents
      systemEvents := posted (firePosts .system u [Fin.ofNat 8 e.toNat]) s.systemEvents } := by
  intro x u
  have hu : setAlarm (Fin.ofNat 8 e.toNat) (some x) s = u := setAlarm_eq he _ s
  have held : u.alarms[Fin.ofNat 8 e.toNat] = some x := by rw [← hu]; simp
  have fires : armEntry m (Fin.ofNat 8 e.toNat) due action s = fireAlarm u (Fin.ofNat 8 e.toNat) := by
    rw [← hu]
    simp only [armEntry, hd, if_true]
    rfl
  have stored (y : AlarmEntry) :
      u.alarms.set (Fin.ofNat 8 e.toNat).val (some y) (Fin.isLt _) = s.alarms.setIfInBounds e.toNat (some y) := by
    rw [← hu]
    exact (Vector.set_set ..).trans (alarms_set_eq he _ s)
  rw [fires, fireAlarm_of_some held, stored]
  simp only [queueAfter, if_neg (show u.power ≠ .off from hp)]
  rfl

/-! ### The two commands -/

/-- The checks of ALARM ARM and ALARM DISARM on the entry named and its owner (R76, R78). -/
def entryChecks (m : Master) (e : Byte) (s : State) : List (Bool × OutcomeCode) :=
  [(decide (8 ≤ e.toNat), .noSuch), ((alarmAt s e).any (fun a => decide (a.owner ≠ m)), .privilege)]

theorem entry_lt_of_ok {m : Master} {e : Byte} {s : State} {rest : List (Bool × OutcomeCode)}
    (h : firstOutcome (entryChecks m e s ++ rest) = .ok) : e.toNat < 8 := by
  refine Nat.lt_of_not_le fun hle => ?_
  simp [entryChecks, firstOutcome, hle] at h

/-- ALARM DISARM is its table of checks, then the entry is FREE (R78). -/
theorem alarmDisarmOp_eq (m : Master) (e : Byte) (s : State) :
    alarmDisarmOp m e s = checked (entryChecks m e s) { s with alarms := s.alarms.setIfInBounds e.toNat none } s := by
  unfold alarmDisarmOp entryChecks
  simp only [checked_cons, checked_nil, ne_eq, reduceCtorEq, not_false_eq_true]
  by_cases he : e.toNat < 8
  · rw [← setAlarm_eq he]
    simp [indexBelow_of_lt he, alarmAt_of_lt s e he, ownedByOther_eq, Nat.not_le.2 he, index_eq_ofNat he]
  · simp [indexBelow_of_le (Nat.not_lt.1 he), Nat.not_lt.1 he]

/-- ALARM ARM is its table of checks, then the arming (R76). -/
theorem alarmArmOp_eq (m : Master) (e k rep action b1 b2 b3 b4 b5 b6 : Byte) (s : State) :
    alarmArmOp m e k rep action b1 b2 b3 b4 b5 b6 s
      = checked (entryChecks m e s ++ armChecks k rep action b1 b2 b3 b4 b5 b6)
        (armEntry m (Fin.ofNat 8 e.toNat) (sentDue k rep b1 b2 b3 b4 b5 b6)
          (if action = 0xFF then none else some (Fin.ofNat 4 action.toNat)) s) s := by
  unfold alarmArmOp entryChecks armChecks
  simp only [List.cons_append, List.nil_append, checked_cons, checked_nil, ne_eq, reduceCtorEq, not_false_eq_true]
  by_cases he : e.toNat < 8
  · simp only [indexBelow_of_lt he, alarmAt_of_lt s e he, ownedByOther_eq, index_eq_ofNat he, toNat_halfOf,
      decide_eq_false (Nat.not_le.2 he), Bool.false_eq_true, if_false]
    refine ite_congr rfl (fun _ => rfl) fun _ => ?_
    refine ite_congr (by simp) (fun _ => rfl) fun hk => ?_
    refine ite_congr (by simp) (fun _ => rfl) fun _ => ?_
    refine ite_congr (by rw [decide_eq_true_eq, eq_iff_iff]; bv_omega) (fun _ => rfl) fun ha => ?_
    refine ite_congr (by simp [dateTimeOf]) (fun _ => rfl) fun _ => ?_
    refine ite_congr (by simp) (fun _ => rfl) fun _ => ?_
    have kind : k.toNat ≤ 2 := by simpa using hk
    have act : action.toNat ≤ 3 ∨ action = 0xFF := by
      rw [decide_eq_true_eq] at ha
      bv_omega
    rw [armedDue_eq kind, actionOf_eq act]
  · simp [indexBelow_of_le (Nat.not_lt.1 he), Nat.not_lt.1 he]

end Sys2Proof.Machine

open Sys2Proof Sys2Proof.Machine Sys2Proof.Safety

/-- Settles O35: each command is its table of checks; the entry armed waits or fires at once. -/
theorem alarmCommandResults : Obligations.AlarmCommandResults := by
  refine ⟨fun r e k rep action b1 b2 b3 b4 b5 b6 s => ?_, fun r e s => ?_⟩
  · intro due outcome entry now stored fired
    have power m := alarmArmOp_power m e k rep action b1 b2 b3 b4 b5 b6 s
    have op m := alarmArmOp_eq m e k rep action b1 b2 b3 b4 b5 b6 s
    have refused m (ho : outcome m ≠ .ok) : alarmArmOp m e k rep action b1 b2 b3 b4 b5 b6 s = (s, outcome m) :=
      (op m).trans (checked_of_refused ho)
    have waits m (ho : outcome m = .ok) (hn : now = false) :
        alarmArmOp m e k rep action b1 b2 b3 b4 b5 b6 s = ({ s with alarms := stored (entry m) }, .ok) :=
      (op m).trans (checked_of_ok ho (armEntry_of_waiting m _ (entry_lt_of_ok ho) hn))
    have fires m (hp : s.power ≠ .off) (ho : outcome m = .ok) (hn : now = true) :
        alarmArmOp m e k rep action b1 b2 b3 b4 b5 b6 s = (fired m, .ok) :=
      (op m).trans (checked_of_ok ho (armEntry_of_due m _ (entry_lt_of_ok ho) hp hn))
    exact ⟨fun hs ho => next_runBus r 0x24 hs (power .game) (refused .game ho),
      fun hs ho hn => next_runBus r 0x24 hs (power .game) (waits .game ho hn),
      fun hs ho hn => next_runBus r 0x24 hs (power .game) (fires .game hs.1 ho hn),
      fun hs ho => next_runLink _ hs (power .system) (congrArg noData (refused .system ho)),
      fun hs ho hn => next_runLink _ hs (power .system) (congrArg noData (waits .system ho hn)),
      fun hs ho hn => next_runLink _ hs (power .system) (congrArg noData (fires .system hs.1 ho hn))⟩
  · intro outcome freed
    exact ⟨fun hs => next_runBus r 0x25 hs (alarmDisarmOp_power .game e s) (alarmDisarmOp_eq .game e s),
      fun hs => next_runLink _ hs (alarmDisarmOp_power .system e s) (congrArg noData (alarmDisarmOp_eq .system e s))⟩
end

section
/-! The stream ring as a queue of bytes (R111 to R120), and the commands of ring and Mixer (R117, R120, R133, R134). -/

namespace Sys2Proof.Machine

open Sys2Proof.Safety

theorem postGame_of_on {s : State} (k : EventKind) (d : Byte) (h : s.power ≠ .off) :
    postGame k d s = { s with gameEvents := s.gameEvents.post k d } := if_neg h

/-! ### The unplayed bytes -/

/-- The first unplayed byte stands at the play position, the others are those of the position after it (R112). -/
theorem unplayed_eq_cons {s t : State} (hplay : s.ring.play < 2048) (hmem : t.ringMem = s.ringMem)
    (hnext : t.ring.play = (s.ring.play + 1) % 2048) (hlevel : s.ring.level = t.ring.level + 1) :
    unplayed s = Memory.read Config.unwrittenRing s.ringMem s.ring.play :: unplayed t := by
  unfold unplayed
  rw [hlevel, hmem, hnext, List.range_succ_eq_map, List.map_cons, List.map_map, Nat.add_zero, Nat.mod_eq_of_lt hplay]
  refine congrArg _ (List.map_congr_left fun i _ => ?_)
  have address : (s.ring.play + (i + 1)) % 2048 = ((s.ring.play + 1) % 2048 + i) % 2048 := by omega
  exact congrArg _ address

/-- None waits exactly at fill level 0. -/
theorem unplayed_eq_nil {s : State} (h : s.ring.level = 0) : unplayed s = [] := by
  rw [unplayed, h]
  rfl

/-! ### A write -/

theorem dataPortWrite_ready {s : State} (b : Byte) (h : busReady s) : dataPortWrite b s = targetWrite b s := by
  obtain ⟨hp, hr, hc⟩ := h
  have alive : busAlive s = true := by simp [busAlive, hp, hr]
  rw [dataPortWrite, if_pos alive, hc]

theorem dataPortWrite_ring {s : State} (b : Byte) (h : busReady s) (ht : s.port.target = .ring) :
    dataPortWrite b s = ringWrite b s := by
  rw [dataPortWrite_ready b h, targetWrite, ht]

theorem ringWrite_of_room {s : State} (b : Byte) (h : s.ring.level < 2048) :
    ringWrite b s = { s with
      ringMem := Memory.write Config.unwrittenRing s.ringMem s.ring.fill b
      ring := { s.ring with
        fill := (s.ring.fill + 1) % 2048, level := s.ring.level + 1
        state := s.ring.state.filledTo (s.ring.level + 1) } } := if_pos h

theorem ringWrite_of_full {s : State} (b : Byte) (h : 2048 ≤ s.ring.level) :
    ringWrite b s = { s with ring := { s.ring with overrun := min (s.ring.overrun + 1) 255 } } :=
  if_neg (Nat.not_lt.2 h)

/-- A write touches ring and ring bytes alone. -/
theorem ringWrite_frame (b : Byte) (s : State) :
    ringWrite b s = { s with ring := (ringWrite b s).ring, ringMem := (ringWrite b s).ringMem } := by
  rcases Nat.lt_or_ge s.ring.level 2048 with h | h
  · rw [ringWrite_of_room b h]
  · rw [ringWrite_of_full b h]

/-- A byte written while there is room is the last of the unplayed bytes: the address it takes is none of theirs (R115). -/
theorem unplayed_ringWrite {s : State} (b : Byte) (hmem : Memory.rising s.ringMem = true)
    (hfill : s.ring.fill = (s.ring.play + s.ring.level) % 2048) (hroom : s.ring.level < 2048) :
    unplayed (ringWrite b s) = unplayed s ++ [b] := by
  rw [ringWrite_of_room b hroom]
  simp only [unplayed, List.range_succ, List.map_append, List.map_singleton, hfill, Memory.read_write _ _ _ hmem, if_true]
  refine congrArg (· ++ [b]) (List.map_congr_left fun i hi => if_neg ?_)
  have := List.mem_range.1 hi
  omega

/-- Only a write that makes the level 256 changes the stream's state (R115). -/
theorem filledTo_eq (r : StreamState) (f : Nat) :
    r.filledTo f = if f = 256 then
        (match r with | .idle => .idle | .run _ => .run .playing | .paused _ => .paused .playing)
      else r := by
  cases r <;> by_cases h : f = 256 <;> simp [StreamState.filledTo, StreamRun.filledTo, h]

/-! ### A step of the stream -/

theorem streamExpiry_of_not_due {s : State} (h : s.ring.state.running = false ∨ 0 < s.voice5.divider.countdown) :
    streamExpiry s = s := by
  refine if_neg fun ⟨hr, hc⟩ => ?_
  rcases h with h | h
  · exact absurd hr (by rw [h]; decide)
  · exact Nat.ne_of_gt h hc

theorem streamExpiry_of_due {s : State} (hc : s.voice5.divider.countdown = 0) (hr : s.ring.state.running = true) :
    streamExpiry s = streamStep { s with voice5.divider := s.voice5.divider.reload } := if_pos ⟨hr, hc⟩

theorem streamStep_of_not_playing {s : State} (h : s.ring.state ≠ .run .playing) : streamStep s = s := if_neg h

/-- A PLAYING stream with no byte waiting starves (R116). -/
theorem streamStep_of_empty {s : State} (hp : s.power ≠ .off) (h : s.ring.state = .run .playing) (hl : s.ring.level = 0) :
    streamStep s = { s with
      ring := { s.ring with state := .run .starved }, gameEvents := s.gameEvents.post .starve 5 } := by
  simp only [streamStep, if_pos h, if_pos hl]
  exact postGame_of_on .starve 5 hp

/-- A PLAYING stream takes the byte at the play position; the level falls below the low mark only from the mark itself
(R116). -/
theorem streamStep_of_byte {s : State} (hp : s.power ≠ .off) (h : s.ring.state = .run .playing) (hl : s.ring.level ≠ 0) :
    streamStep s = { s with
      ring := { s.ring with
        held := Memory.read Config.unwrittenRing s.ringMem s.ring.play
        play := (s.ring.play + 1) % 2048, level := s.ring.level - 1 }
      gameEvents := if s.ring.level = s.ring.lowMark then s.gameEvents.post .ringLow 5 else s.gameEvents } := by
  have crosses : (s.ring.lowMark ≤ s.ring.level ∧ s.ring.level - 1 < s.ring.lowMark) ↔ s.ring.level = s.ring.lowMark := by
    omega
  simp only [streamStep, if_pos h, if_neg hl, crosses]
  split
  · exact postGame_of_on .ringLow 5 hp
  · rfl

/-! ### RING SET and MIX SET -/

/-- The outcome of a parameter that is clamped to `top`, by whether it is within. -/
theorem clamped_above_eq (n top : Nat) :
    (if top < n then OutcomeCode.clamped else .ok) = if n ≤ top then .ok else .clamped := by
  simp only [← Nat.not_le, ite_not]

/-- RING SET on its byte (R117). -/
theorem ringSetOp_eq (mark : Byte) (s : State) :
    ringSetOp mark s = ({ s with ring := { s.ring with lowMark := 64 * min mark.toNat 31 } },
      if mark.toNat ≤ 31 then .ok else .clamped) := by
  rw [ringSetOp, clamped_above_eq]

/-- MIX SET on its three bytes: refused when a flag byte is neither 00h nor 01h (R133). -/
theorem mixSetOp_eq (volume mode on : Byte) (s : State) :
    mixSetOp volume mode on s =
      if 1 < mode.toNat ∨ 1 < on.toNat then (s, .range)
      else ({ s with mixer := { s.mixer with
          master := min volume.toNat 63, rounding := if mode = 0x01 then .nearest else .floor
          enabled := decide (on = 0x01), dac := if on = 0x01 then s.mixer.dac else 512 } },
        if volume.toNat ≤ 63 then .ok else .clamped) := by
  rw [mixSetOp, flagOf_eq, flagOf_eq]
  by_cases hm : mode.toNat ≤ 1
  · by_cases ho : on.toNat ≤ 1
    · have inRange : ¬(1 < mode.toNat ∨ 1 < on.toNat) := by omega
      simp only [if_pos hm, if_pos ho, if_neg inRange, decide_eq_true_eq, clamped_above_eq]
    · simp only [if_pos hm, if_neg ho, if_pos (Or.inr (Nat.lt_of_not_le ho)), refuse]
  · simp only [if_neg hm, if_pos (Or.inl (Nat.lt_of_not_le hm)), refuse]

end Sys2Proof.Machine

open Sys2Proof Sys2Proof.Machine Sys2Proof.Safety

/-- Settles O44: a write by whether there is room, a step by the state of the stream and the fill level. -/
theorem ringIsAQueue : Obligations.RingIsAQueue := by
  refine ⟨fun b s hs ht hring ⟨_, _, hmem, _⟩ => ?_, fun s hp => ?_⟩
  · obtain ⟨_, hfill, _⟩ := hring
    refine ⟨ringWrite b s, congrArg _ (dataPortWrite_ring b hs ht), ringWrite_frame b s, fun hroom => ⟨?_, ?_⟩,
      fun hfull => ?_⟩
    · exact unplayed_ringWrite b (Memory.wf_iff.1 hmem).1 hfill hroom
    · rw [ringWrite_of_room b hroom, filledTo_eq] <;> rfl
    · rw [ringWrite_of_full b (Nat.le_of_eq hfull.symm)]
      exact ⟨rfl, rfl⟩
  · intro u
    have due (hc : s.voice5.divider.countdown = 0) {x : StreamRun} (hr : s.ring.state = .run x) :
        exec .streamStep s = .next (streamStep u) := congrArg _ (streamExpiry_of_due hc (by rw [hr]; rfl))
    refine ⟨fun h => congrArg _ (streamExpiry_of_not_due h), ?_, fun hc hr hl => ?_, fun b hb hc hr hring => ?_⟩
    · rintro hc (hr | hr) <;> rw [due hc hr, streamStep_of_not_playing (by rw [show u.ring.state = _ from hr]; decide)]
    · rw [due hc hr, streamStep_of_empty (by exact hp) (by exact hr) (by exact hl)]
    · obtain ⟨hplay, _⟩ := hring
      have waits : s.ring.level ≠ 0 := fun hl => by rw [unplayed_eq_nil hl] at hb; cases hb
      have step := streamStep_of_byte (s := u) (by exact hp) (by exact hr) (by exact waits)
      have queue : unplayed s = Memory.read Config.unwrittenRing s.ringMem s.ring.play :: unplayed (streamStep u) := by
        rw [step]
        exact unplayed_eq_cons hplay rfl rfl (Nat.succ_pred waits).symm
      rw [queue, List.head?_cons, Option.mem_some_iff] at hb
      refine ⟨streamStep u, due hc hr, by rw [queue, List.tail_cons], ?_⟩
      rw [step, ← hb]

/-- Settles O43: each command's operation, then its report. -/
theorem ringAndMixerCommandResults : Obligations.RingAndMixerCommandResults := by
  refine fun r b mode on s hs => ⟨?_, ?_, ?_, ?_⟩
  · exact next_runBus r 0x36 hs (ringSetOp_power b s) (ringSetOp_eq b s)
  · refine next_runBus r 0x37 hs (ringFlushOp_power s) ?_
    simp only [ringFlushOp, RingRecord.flush]
    cases s.ring.state <;> rfl
  · have taken {t : State} {o : OutcomeCode} := next_runBus (t := t) (o := o) r 0x38 hs (mixSetOp_power b mode on s)
    split
    · next h => exact taken ((mixSetOp_eq b mode on s).trans (if_pos h))
    · next h => exact taken ((mixSetOp_eq b mode on s).trans (if_neg h))
  · exact next_runBus r 0x39 hs (clipClearOp_power s) rfl
end

section
/-! What most operations do at the Rumble Driver and at the event queues: nothing at the driver, and at a queue only
what keeps it sound. -/

namespace Sys2Proof.Safety

open Sys2Proof.Machine

/-- What the rules of the effective level and of the MOTOR pin speak of (R139, R142, R143), but for the memories and the
voices that a mode reads. -/
structure Driver where
  rumble : RumbleRecord
  battery : BatteryState
  power : PowerState
  motor : Nat
  motorFrame : Nat

/-- The driver's part of a state. -/
def driver (s : State) : Driver :=
  { rumble := s.rumble, battery := s.battery, power := s.power, motor := s.motor, motorFrame := s.motorFrame }

/-- `t` comes from `s` by something beside the driver: the driver's part stays, sound queues stay sound. -/
structure Beside (s t : State) : Prop where
  driver : driver t = driver s
  events : EventsSound s → EventsSound t

namespace Beside

variable {s t u : State}

/-- Neither the driver's part nor a queue is written. -/
theorem of_eq (hd : Safety.driver t = Safety.driver s) (hg : t.gameEvents.queue = s.gameEvents.queue)
    (hy : t.systemEvents.queue = s.systemEvents.queue) : Beside s t :=
  ⟨hd, fun h => by rwa [EventsSound, hg, hy]⟩

@[simp] theorem refl (s : State) : Beside s s := ⟨rfl, id⟩

theorem trans (h : Beside s t) (h' : Beside t u) : Beside s u :=
  ⟨h'.driver.trans h.driver, fun hs => h'.events (h.events hs)⟩

theorem rumble (h : Beside s t) : t.rumble = s.rumble := congrArg Driver.rumble h.driver
theorem power (h : Beside s t) : t.power = s.power := congrArg Driver.power h.driver
theorem motor (h : Beside s t) : t.motor = s.motor := congrArg Driver.motor h.driver
theorem motorFrame (h : Beside s t) : t.motorFrame = s.motorFrame := congrArg Driver.motorFrame h.driver

theorem after (h' : Beside t u) (h : Beside s t) : Beside s u := h.trans h'

/-- A post to the game queue keeps it sound (R158). -/
theorem postGame {k : EventKind} {d : Byte} (h : Beside s t) : Beside s (postGame k d t) := by
  refine h.trans ?_
  unfold Machine.postGame
  split
  · exact .refl t
  · exact ⟨rfl, fun ⟨hg, hy⟩ => ⟨queueSound_post _ k d hg, hy⟩⟩

/-- A post to the system queue keeps it sound (R158). -/
theorem postSystem {k : EventKind} {d : Byte} (h : Beside s t) : Beside s (postSystem k d t) := by
  refine h.trans ?_
  unfold Machine.postSystem
  split
  · exact .refl t
  · exact ⟨rfl, fun ⟨hg, hy⟩ => ⟨hg, queueSound_post _ k d hy⟩⟩

theorem postBoth {k : EventKind} {d : Byte} (h : Beside s t) : Beside s (postBoth k d t) := h.postGame.postSystem

theorem postTo {m : Master} {k : EventKind} {d : Byte} (h : Beside s t) : Beside s (postTo m k d t) := by
  cases m
  · exact h.postGame
  · exact h.postSystem

/-- Operations beside the driver one after another. -/
theorem foldl {α : Type} {f : State → α → State} (h : ∀ t a, Beside t (f t a)) (l : List α) (s : State) :
    Beside s (l.foldl f s) :=
  List.foldlRecOn l f (.refl s) fun _ ht a _ => ht.trans (h _ a)

end Beside

section
variable (s : State)

/-! ### Ports -/

@[simp] theorem beside_noteRefusal (o : OutcomeCode) : Beside s (noteRefusal o s) := .postGame (.of_eq rfl rfl rfl)

@[simp] theorem beside_refuseAccess (o : OutcomeCode) : Beside s (refuseAccess o s) := beside_noteRefusal s o

@[simp] theorem beside_refuseRead (o : OutcomeCode) : Beside s (refuseRead o s) :=
  Beside.after (beside_refuseAccess _ o) (.of_eq rfl rfl rfl)

/-- A report adds to port and game queue alone (R172). -/
theorem beside_report (r : Bool) (code : Byte) (x : Result) : Beside x.1 (report r code x) := by
  have outcome : Beside x.1 (if r then { x.1 with port.outcome := x.2 } else x.1) := by
    split
    · exact .of_eq rfl rfl rfl
    · exact .refl _
  simp only [report]
  split
  · exact outcome.trans (beside_noteRefusal _ _)
  · split
    · exact outcome.postGame
    · exact outcome

@[simp] theorem beside_abandonCommand : Beside s (abandonCommand s) := by
  unfold abandonCommand
  split
  · exact .refl s
  · exact Beside.after (beside_report _ _ _) (.of_eq rfl rfl rfl)

/-- A reply adds to frame and system queue alone (R179, R180). -/
theorem beside_takeLink (op : State → LinkResult) : Beside (op s).1 (takeLink op s) := by
  have reply (f : SideFrame) : Beside (op s).1 { (op s).1 with side.frame := f } := .of_eq rfl rfl rfl
  simp only [takeLink]
  split
  · exact (reply _).postSystem
  · exact reply _

@[simp] theorem beside_assertSelect : Beside s (assertSelect s) := by
  unfold assertSelect
  split <;> exact .of_eq rfl rfl rfl

@[simp] theorem beside_releaseSelect : Beside s (releaseSelect s) := .of_eq rfl rfl rfl

@[simp] theorem beside_readOut : Beside s (readOut s) := by
  unfold readOut
  split <;> exact .of_eq rfl rfl rfl

@[simp] theorem beside_selectTarget (t : Target) (c : Nat) (l : Byte) : Beside s (selectTarget t c l s) :=
  .of_eq rfl rfl rfl

@[simp] theorem beside_selectOp (t x : Byte) (a : Half) : Beside s (selectOp t x a s).1 := by
  simp only [selectOp, selectStage, selectSlot, selectInfo, refuse]
  repeat' split
  all_goals simp

@[simp] theorem beside_entryOp (d : Byte) : Beside s (entryOp d s).1 := by
  unfold entryOp
  split <;> exact .of_eq rfl rfl rfl

@[simp] theorem beside_statusClearOp : Beside s (statusClearOp s).1 := .of_eq rfl rfl rfl

@[simp] theorem beside_latchRead (n : Nat) (f : Nat → Byte) : Beside s (latchRead n f s) := .of_eq rfl rfl rfl

@[simp] theorem beside_targetRead : Beside s (targetRead s) := by
  unfold targetRead stageRead slotPortRead
  repeat' split
  · exact .of_eq rfl rfl rfl
  all_goals simp

@[simp] theorem beside_dataPortRead : Beside s (dataPortRead s) := by
  unfold dataPortRead
  split <;> simp

/-! ### Event commands -/

/-- An acknowledged queue is sound: it has lost its first entry (R163). -/
@[simp] theorem beside_eventAckOp (m : Master) : Beside s (eventAckOp m s).1 := by
  have acked {q : List EventEntry} (h : queueSound q) : queueSound q.tail := by
    obtain ⟨hl, hp, hc⟩ := h
    exact ⟨by rw [List.length_tail]; omega, hp.tail, fun e he => hc e (List.mem_of_mem_tail he)⟩
  cases m
  · exact ⟨rfl, fun ⟨hg, hy⟩ => ⟨acked hg, hy⟩⟩
  · exact ⟨rfl, fun ⟨hg, hy⟩ => ⟨hg, acked hy⟩⟩

@[simp] theorem beside_eventAckLostOp (m : Master) : Beside s (eventAckLostOp m s).1 := by
  cases m <;> exact .of_eq rfl rfl rfl

@[simp] theorem beside_eventMaskOp (m : Master) (a b c : Byte) : Beside s (eventMaskOp m a b c s).1 := by
  cases m <;> exact .of_eq rfl rfl rfl

@[simp] theorem beside_lineEnableOp (m : Master) (e : Byte) : Beside s (lineEnableOp m e s).1 := by
  unfold lineEnableOp
  split
  · exact .refl s
  · cases m <;> exact .of_eq rfl rfl rfl

/-! ### Voices, stream and Mixer -/

@[simp] theorem beside_setVoice (v : Fin 5) (x : TableVoice) : Beside s (setVoice v x s) := .of_eq rfl rfl rfl

@[simp] theorem beside_stepVoice (v : Fin 5) : Beside s (stepVoice v s) := by
  simp only [stepVoice]
  repeat' split
  · exact beside_setVoice ..
  · exact beside_setVoice ..
  · exact (beside_setVoice ..).postGame

@[simp] theorem beside_voiceExpiry (v : Fin 5) : Beside s (voiceExpiry v s) := by
  simp only [voiceExpiry]
  split
  · exact (beside_setVoice ..).trans (beside_stepVoice ..)
  · exact .refl s

@[simp] theorem beside_setEnvelope (v : Fin 6) (e : Envelope) : Beside s (setEnvelope v e s) := by
  unfold setEnvelope
  split <;> exact .of_eq rfl rfl rfl

@[simp] theorem beside_stopAtZero (v : Fin 5) : Beside s (stopAtZero v s) := by
  simp only [stopAtZero]
  split
  · exact (beside_setVoice ..).postGame
  · exact .refl s

@[simp] theorem beside_moveEnvelope (v : Fin 6) : Beside s (moveEnvelope v s) := by
  simp only [moveEnvelope]
  split
  · exact (beside_setEnvelope ..).trans (beside_stopAtZero ..)
  · exact beside_setEnvelope ..

@[simp] theorem beside_envelopeFrame (v : Fin 6) : Beside s (envelopeFrame v s) := by
  simp only [envelopeFrame]
  repeat' split
  all_goals simp

@[simp] theorem beside_envelopeExpiry (v : Fin 6) : Beside s (envelopeExpiry v s) := by
  simp only [envelopeExpiry]
  split <;> simp

@[simp] theorem beside_streamStep : Beside s (streamStep s) := by
  simp only [streamStep]
  repeat' split
  · exact .postGame (.of_eq rfl rfl rfl)
  · exact .postGame (.of_eq rfl rfl rfl)
  · exact .of_eq rfl rfl rfl
  · exact .refl s

@[simp] theorem beside_streamExpiry : Beside s (streamExpiry s) := by
  unfold streamExpiry
  split
  · exact Beside.after (beside_streamStep _) (.of_eq rfl rfl rfl)
  · exact .refl s

@[simp] theorem beside_voiceClock (v : Fin 5) : Beside s (voiceClock s v) := by
  simp only [voiceClock]
  repeat' split
  all_goals simp

@[simp] theorem beside_streamClock : Beside s (streamClock s) := by
  simp only [streamClock]
  repeat' split
  · exact beside_streamExpiry s
  · exact .of_eq rfl rfl rfl
  · exact .refl s

@[simp] theorem beside_engineClock : Beside s (engineClock s) :=
  (Beside.foldl beside_voiceClock _ s).trans (beside_streamClock _)

@[simp] theorem beside_mixFrame : Beside s (mixFrame s) := by
  simp only [mixFrame]
  repeat' split
  · exact .postGame (.of_eq rfl rfl rfl)
  · exact .of_eq rfl rfl rfl
  · exact .of_eq rfl rfl rfl

@[simp] theorem beside_envelopeFrames (w : BitVec 6) (b : Bool) : Beside s (envelopeFrames w b s) :=
  Beside.foldl (fun t v => by split <;> simp) _ s

/-- A frame with the main supply present acts at the driver by the crystal's count alone (R143). -/
theorem beside_frameArrivalOp {s : State} (w : BitVec 6) (hp : s.power ≠ .off) :
    Beside (countFrame s) (frameArrivalOp w s) := by
  rw [frameArrivalOp, if_neg hp]
  exact (beside_envelopeFrames _ w true).trans ((beside_mixFrame _).trans (beside_envelopeFrames _ w false))

@[simp] theorem beside_voiceSetOp (v c b l f : Byte) : Beside s (voiceSetOp v c b l f s).1 := by
  simp only [voiceSetOp, refuse]
  repeat' split
  all_goals simp

@[simp] theorem beside_voiceStartOp (m : Byte) : Beside s (voiceStartOp m s).1 := by
  simp only [voiceStartOp]
  split <;> exact .of_eq rfl rfl rfl

@[simp] theorem beside_voiceStopOp (m : Byte) : Beside s (voiceStopOp m s).1 := by
  simp only [voiceStopOp]
  split <;> exact .of_eq rfl rfl rfl

@[simp] theorem beside_voicePitchOp (v : Byte) (d : Half) (t : Byte) : Beside s (voicePitchOp v d t s).1 := by
  simp only [voicePitchOp, refuse]
  repeat' split
  all_goals exact .of_eq rfl rfl rfl

@[simp] theorem beside_voiceLevelOp (v l d e : Byte) : Beside s (voiceLevelOp v l d e s).1 := by
  simp only [voiceLevelOp, refuse]
  repeat' split
  all_goals simp

@[simp] theorem beside_waveLayoutOp (l : Byte) : Beside s (waveLayoutOp l s).1 := by
  unfold waveLayoutOp
  split <;> exact .of_eq rfl rfl rfl

@[simp] theorem beside_ringSetOp (m : Byte) : Beside s (ringSetOp m s).1 := .of_eq rfl rfl rfl
@[simp] theorem beside_ringFlushOp : Beside s (ringFlushOp s).1 := .of_eq rfl rfl rfl
@[simp] theorem beside_clipClearOp : Beside s (clipClearOp s).1 := .of_eq rfl rfl rfl

@[simp] theorem beside_mixSetOp (v m e : Byte) : Beside s (mixSetOp v m e s).1 := by
  unfold mixSetOp
  split <;> exact .of_eq rfl rfl rfl

@[simp] theorem beside_ringWrite (b : Byte) : Beside s (ringWrite b s) := by
  simp only [ringWrite]
  split <;> exact .of_eq rfl rfl rfl

/-! ### Store -/

@[simp] theorem beside_grantHold (m : HoldMode) : Beside s (grantHold m s) := .postBoth (.of_eq rfl rfl rfl)

@[simp] theorem beside_grantPending : Beside s (grantPending s) := by
  unfold grantPending
  split <;> simp

@[simp] theorem beside_rollBack (k : EndKind) : Beside s (rollBack k s) := by
  unfold rollBack
  split <;> exact .of_eq rfl rfl rfl

@[simp] theorem beside_rollBackWithFail (k : EndKind) : Beside s (rollBackWithFail k s) := by
  unfold rollBackWithFail
  split
  · exact .refl s
  · exact (beside_rollBack s k).postGame

@[simp] theorem beside_fillWalkPage (n : SlotNo) (d : Nat) : Beside s (fillWalkPage n d s) := by
  simp only [fillWalkPage, fillComplete]
  repeat' split
  · exact .refl s
  · exact .of_eq rfl rfl rfl
  · exact Beside.after (beside_grantPending _) (.postGame (.of_eq rfl rfl rfl))

@[simp] theorem beside_checkWalkPage (n : SlotNo) (d a b : Nat) : Beside s (checkWalkPage n d a b s) := by
  simp only [checkWalkPage, switchSlot]
  repeat' split
  · exact .refl s
  · exact .of_eq rfl rfl rfl
  · exact Beside.after (beside_grantPending _) (.postGame (.of_eq rfl rfl rfl))

@[simp] theorem beside_verifyWalkPage (n : SlotNo) (d a b : Nat) : Beside s (verifyWalkPage n d a b s) := by
  simp only [verifyWalkPage, verifyComplete]
  repeat' split
  · exact .of_eq rfl rfl rfl
  · exact Beside.after (beside_grantPending _) (.of_eq rfl rfl rfl)
  · exact Beside.after (beside_grantPending _) (.of_eq rfl rfl rfl)
  · exact Beside.after (beside_grantPending _) (.postGame (.of_eq rfl rfl rfl))

@[simp] theorem beside_walkPageOp : Beside s (walkPageOp s) := by
  unfold walkPageOp
  split <;> simp

@[simp] theorem beside_walkPages (k : Nat) : Beside s (walkPages k s) := by
  induction k generalizing s with
  | zero => exact .refl s
  | succ j ih => exact (beside_walkPageOp s).trans (ih _)

@[simp] theorem beside_openOp (n z m : Byte) : Beside s (openOp n z m s).1 := by
  have opened (n z m) : Beside s (openTransaction n z m s) := .of_eq rfl rfl rfl
  simp only [openOp, refuse]
  repeat' split
  all_goals simp [opened]

@[simp] theorem beside_commitOp : Beside s (commitOp s).1 := by
  simp only [commitOp, refuse]
  repeat' split
  all_goals exact .of_eq rfl rfl rfl

@[simp] theorem beside_abortOp : Beside s (abortOp s).1 := by
  simp only [abortOp, refuse]
  repeat' split
  · exact .refl s
  · exact .refl s
  · exact .refl s
  · exact (beside_rollBackWithFail s _).trans (beside_grantPending _)
  · exact beside_rollBackWithFail s _

@[simp] theorem beside_eraseOp (n : Byte) : Beside s (eraseOp n s).1 := by
  simp only [eraseOp, refuse]
  repeat' split
  all_goals exact .of_eq rfl rfl rfl

@[simp] theorem beside_verifyOp (n : Byte) : Beside s (verifyOp n s).1 := by
  simp only [verifyOp, refuse]
  repeat' split
  all_goals exact .of_eq rfl rfl rfl

/-- A hold that waits is recorded, one that need not wait granted, after the roll-back if there is one (R38, R40). -/
@[simp] theorem beside_holdOp (m : Byte) : Beside s (holdOp m s).1 := by
  have waits {t : State} (h : Beside s t) (x : HoldRecord) : Beside s { t with hold := x } :=
    h.trans (.of_eq rfl rfl rfl)
  have rolled (k) := beside_rollBackWithFail s k
  simp only [holdOp, newHold, upgradeHold, refuse]
  repeat' split
  · exact .refl s
  · exact .refl s
  · exact (rolled _).trans (beside_grantHold ..)
  · exact waits (rolled _) _
  · exact (rolled _).trans (beside_grantHold ..)
  · exact waits (.refl s) _
  · exact beside_grantHold ..
  · exact .refl s
  · exact (rolled _).trans (beside_grantHold ..)
  · exact waits (rolled _) _
  · exact waits (.refl s) _
  · exact .refl s

@[simp] theorem beside_releaseOp : Beside s (releaseOp s).1 := by
  unfold releaseOp
  split
  · exact .refl s
  · exact .of_eq rfl rfl rfl
  · exact .postBoth (.of_eq rfl rfl rfl)

@[simp] theorem beside_slotReadOp (n : Byte) (o : Half) (c : Byte) : Beside s (slotReadOp n o c s).1 := by
  simp only [slotReadOp]
  repeat' split
  all_goals exact .of_eq rfl rfl rfl

@[simp] theorem beside_readRecordOp (r x : Byte) : Beside s (readRecordOp r x s).1 := by
  unfold readRecordOp
  repeat' split
  all_goals exact .refl s

@[simp] theorem beside_stageWrite (b : Byte) : Beside s (stageWrite b s) := by
  simp only [stageWrite]
  repeat' split
  · exact beside_refuseAccess ..
  · exact beside_refuseAccess ..
  · exact .of_eq rfl rfl rfl

@[simp] theorem beside_targetWrite (b : Byte) : Beside s (targetWrite b s) := by
  unfold targetWrite
  split
  · exact beside_refuseAccess ..
  · exact .of_eq rfl rfl rfl
  · exact .of_eq rfl rfl rfl
  · exact beside_stageWrite ..
  · exact beside_ringWrite ..
  · exact beside_refuseAccess ..
  · exact beside_refuseAccess ..

/-! ### Alarm Table and Calendar -/

@[simp] theorem beside_setAlarm (e : Fin 8) (x : Option AlarmEntry) : Beside s (setAlarm e x s) := .of_eq rfl rfl rfl

@[simp] theorem beside_alarmDisarmOp (m : Master) (e : Byte) : Beside s (alarmDisarmOp m e s).1 := by
  unfold alarmDisarmOp
  repeat' split
  all_goals exact .of_eq rfl rfl rfl

@[simp] theorem beside_turnDay : Beside s (turnDay s).1 := by
  simp only [turnDay]
  split
  · exact .postBoth (.of_eq rfl rfl rfl)
  · exact .of_eq rfl rfl rfl

theorem beside_applyTurns (n : Nat) (r : State × Nat) : Beside r.1 (applyTurns n r).1 := by
  induction n generalizing r with
  | zero => exact .refl r.1
  | succ k ih => exact (beside_turnDay r.1).trans (ih (_, if (turnDay r.1).2 then r.2 + 1 else r.2))

@[simp] theorem beside_setClock (t : DateTime) : Beside s (setClock t s) := .of_eq rfl rfl rfl

@[simp] theorem beside_backwardSetting (t : DateTime) : Beside s (backwardSetting t s) :=
  .postGame (.of_eq rfl rfl rfl)

@[simp] theorem beside_sameSetting : Beside s (sameSetting s) := .postGame (.of_eq rfl rfl rfl)

@[simp] theorem beside_dayStartOp (h m : Byte) : Beside s (dayStartOp h m s).1 := by
  unfold dayStartOp
  split <;> exact .of_eq rfl rfl rfl

@[simp] theorem beside_catchUpLimitOp (l : Half) : Beside s (catchUpLimitOp l s).1 := .of_eq rfl rfl rfl
@[simp] theorem beside_rebaseOp (d : Half) : Beside s (rebaseOp d s).1 := .of_eq rfl rfl rfl

/-! ### Supply -/

@[simp] theorem beside_resetReleaseOp : Beside s (resetReleaseOp s) := .of_eq rfl rfl rfl

@[simp] theorem beside_retentionLossOp : Beside s (retentionLossOp s) := by
  unfold retentionLossOp
  split <;> exact .of_eq rfl rfl rfl

end
end Sys2Proof.Safety
end

section
/-! The Rumble Driver's operations as equations: patterns (R147), the run accounting and the tick (R148), the effective
level formed (R142). -/

namespace Sys2Proof.Machine

open Sys2Proof.Safety

/-! ### The effective level -/

theorem effectiveLevel_eq (s : State) : effectiveLevel s = formedLevel s (modeLevel s) := rfl

theorem formedLevel_of_active {s : State} (level : Nat) (hp : s.power = .active) (hr : s.rumble.rest = none) :
    formedLevel s level = min level s.battery.rumbleCap := if_pos ⟨hp, hr⟩

theorem formedLevel_of_silenced {s : State} (level : Nat) (h : s.power ≠ .active ∨ s.rumble.rest ≠ none) :
    formedLevel s level = 0 := if_neg fun ⟨hp, hr⟩ => h.elim (· hp) (· hr)

theorem formedLevel_le (s : State) (level : Nat) : formedLevel s level ≤ s.battery.rumbleCap := by
  unfold formedLevel
  split
  · exact Nat.min_le_right _ _
  · exact Nat.zero_le _

theorem rumbleCap_le (b : BatteryState) : b.rumbleCap ≤ 15 := by cases b <;> decide

/-! ### Steps of a pattern -/

section
variable {s : State} {p : Fin 4} {n k : Nat}

/-- What follows a step is a step of the pattern that has a duration (R140, R147). -/
theorem followingStep_some {m : RumbleMode} (h : followingStep s p n k = some m) :
    ∃ i j, i ≤ n ∧ j ≤ 15 ∧ stepDuration s p j ≠ 0 ∧ m = loadedStep s p i j := by
  unfold followingStep at h
  split at h
  · next hk => exact ⟨n, k + 1, Nat.le_refl n, hk.1, hk.2, (Option.some.inj h).symm⟩
  · split at h
    · cases h
    · next hn => exact ⟨n - 1, 0, Nat.sub_le n 1, Nat.zero_le 15, fun hd => hn (.inr hd), (Option.some.inj h).symm⟩

theorem endPattern_of_on (p : Fin 4) (hp : s.power ≠ .off) :
    endPattern p s = { s with
      rumble.mode := .off, gameEvents := s.gameEvents.post .rumbleEnd (BitVec.ofNat 8 p.val) } :=
  postGame_of_on _ _ hp

theorem nextStep_of_some {m : RumbleMode} (h : followingStep s p n k = some m) :
    nextStep p n k s = { s with rumble.mode := m } := by
  unfold followingStep at h
  unfold nextStep
  split at h
  · next hk => rw [if_pos hk, ← Option.some.inj h]; rfl
  · next hk =>
    split at h
    · cases h
    · next hn =>
      obtain ⟨hone, hd⟩ := not_or.1 hn
      rw [if_neg hk, if_neg hone, ← Option.some.inj h]
      split
      · next hz => subst hz; exact if_neg hd
      · exact if_neg hd

theorem nextStep_of_none (hp : s.power ≠ .off) (h : followingStep s p n k = none) :
    nextStep p n k s = { s with
      rumble.mode := .off, gameEvents := s.gameEvents.post .rumbleEnd (BitVec.ofNat 8 p.val) } := by
  rw [← endPattern_of_on p hp]
  unfold followingStep at h
  unfold nextStep
  split at h
  · cases h
  · next hk =>
    split at h
    · next hn =>
      rw [if_neg hk]
      split
      · next hz => exact if_pos (hn.resolve_left (by omega))
      · split
        · rfl
        · next hone => exact if_pos (hn.resolve_left hone)
    · cases h

end

/-! ### The run accounting of a tick -/

/-- The accounting begins a rest (R149). -/
def cutDue (r : RumbleRecord) : Bool := decide (r.rest = none ∧ 0 < r.level ∧ r.runLimit ≤ r.runCounter + 1)

theorem cutDue_iff {r : RumbleRecord} :
    cutDue r = true ↔ r.rest = none ∧ 0 < r.level ∧ r.runLimit ≤ r.runCounter + 1 := decide_eq_true_iff

/-- The record after the accounting: a rest counts down or ends, a driven tick counts up and may begin a rest, another
counts down (R148, R149). -/
def accounted (r : RumbleRecord) : RumbleRecord :=
  match r.rest with
  | some t => if t ≤ 1 then { r with rest := none, runCounter := 0 } else { r with rest := some (t - 1) }
  | none =>
    if 0 < r.level then
      { r with runCounter := r.runCounter + 1, rest := if r.runLimit ≤ r.runCounter + 1 then some 128 else none }
    else { r with runCounter := r.runCounter - 1 }

section
variable {r : RumbleRecord}

theorem accounted_of_rest {t : Nat} (h : r.rest = some t) :
    accounted r = if t ≤ 1 then { r with rest := none, runCounter := 0 } else { r with rest := some (t - 1) } := by
  rw [accounted, h]

theorem accounted_of_driven (h : r.rest = none) (hl : 0 < r.level) :
    accounted r = { r with
      runCounter := r.runCounter + 1, rest := if r.runLimit ≤ r.runCounter + 1 then some 128 else none } := by
  rw [accounted, h]
  exact if_pos hl

theorem accounted_of_still (h : r.rest = none) (hl : r.level = 0) :
    accounted r = { r with runCounter := r.runCounter - 1 } := by
  rw [accounted, h]
  exact if_neg (by omega)

/-- The accounting writes run counter and rest alone. -/
theorem accounted_eq (r : RumbleRecord) :
    accounted r = { r with runCounter := (accounted r).runCounter, rest := (accounted r).rest } := by
  unfold accounted
  repeat' split
  all_goals rfl

@[simp] theorem accounted_mode (r : RumbleRecord) : (accounted r).mode = r.mode := by rw [accounted_eq]
@[simp] theorem accounted_runLimit (r : RumbleRecord) : (accounted r).runLimit = r.runLimit := by rw [accounted_eq]

end

theorem beginRest_of_on {s : State} (c : Nat) (hp : s.power ≠ .off) :
    beginRest c s = { s with
      rumble := { s.rumble with runCounter := c, rest := some 128 }, gameEvents := s.gameEvents.post .rumbleCut 0 } :=
  postGame_of_on _ _ hp

theorem runAccounting_eq {s : State} (hp : s.power ≠ .off) :
    runAccounting s = { s with
      rumble := accounted s.rumble
      gameEvents := if cutDue s.rumble then s.gameEvents.post .rumbleCut 0 else s.gameEvents } := by
  unfold runAccounting
  cases hr : s.rumble.rest with
  | some t =>
    have quiet : ¬cutDue s.rumble = true := fun h => by cases hr.symm.trans (cutDue_iff.1 h).1
    rw [if_neg quiet, accounted_of_rest hr]
    dsimp only
    split <;> rfl
  | none =>
    dsimp only
    by_cases hl : 0 < s.rumble.level
    · rw [if_pos hl, accounted_of_driven hr hl]
      by_cases hc : s.rumble.runLimit ≤ s.rumble.runCounter + 1
      · rw [if_pos hc, if_pos (cutDue_iff.2 ⟨hr, hl, hc⟩), if_pos hc, beginRest_of_on _ hp]
      · have quiet : ¬cutDue s.rumble = true := fun h => hc (cutDue_iff.1 h).2.2
        rw [if_neg hc, if_neg quiet, if_neg hc, ← hr]
    · have quiet : ¬cutDue s.rumble = true := fun h => hl (cutDue_iff.1 h).2.1
      rw [if_neg hl, if_neg quiet, accounted_of_still hr (Nat.eq_zero_of_not_pos hl)]

/-! ### The pattern's share of a tick -/

/-- The mode after it: the step counts down, or what follows it is loaded, or the pattern ends (R147). -/
def sequencedMode (s : State) : RumbleMode :=
  match s.rumble.mode with
  | .pattern p n k l d => if d ≤ 1 then (followingStep s p n k).getD .off else .pattern p n k l (d - 1)
  | m => m

/-- The game queue after it: RUMBLE_END at the end of the pattern (R147). -/
def sequencedEvents (s : State) : EventRecord :=
  match s.rumble.mode with
  | .pattern p n k _ d =>
    if d ≤ 1 ∧ followingStep s p n k = none then s.gameEvents.post .rumbleEnd (BitVec.ofNat 8 p.val) else s.gameEvents
  | _ => s.gameEvents

theorem sequencePattern_eq {s : State} (hp : s.power ≠ .off) :
    sequencePattern s = { s with rumble.mode := sequencedMode s, gameEvents := sequencedEvents s } := by
  unfold sequencePattern sequencedMode sequencedEvents
  cases hm : s.rumble.mode with
  | pattern p n k l d =>
    dsimp only
    split
    · next hd =>
      cases hf : followingStep s p n k with
      | some m => simp [nextStep_of_some hf]
      | none => simp [nextStep_of_none hp hf, hd]
    · next hd => simp [hd]
  | _ => simp [← hm]

/-- A tick in ACTIVE whole (R147, R148): the accounting, the pattern's step, the level formed. -/
theorem tickOp_of_active {s : State} (hp : s.power = .active) :
    tickOp s = formLevel { s with
      rumble := { accounted s.rumble with mode := sequencedMode s }
      gameEvents := sequencedEvents { s with
        gameEvents := if cutDue s.rumble then s.gameEvents.post .rumbleCut 0 else s.gameEvents } } := by
  have hon : s.power ≠ .off := by rw [hp]; decide
  rw [tickOp, if_pos hp, runAccounting_eq hon, sequencePattern_eq (by exact hon)]
  unfold sequencedMode sequencedEvents
  simp only [accounted_mode]
  cases s.rumble.mode <;> rfl

/-! ### The rows that name a part of a tick -/

section
variable {s : State}

theorem patternStepEndOp_of_pattern {p : Fin 4} {n k l d : Nat} (hp : s.power = .active)
    (hm : s.rumble.mode = .pattern p n k l d) :
    patternStepEndOp s = if d ≤ 1 then formLevel (nextStep p n k s) else s := by
  rw [patternStepEndOp, if_pos hp, hm]

theorem patternStepEndOp_of_other (h : ∀ p n k l d, s.rumble.mode ≠ .pattern p n k l d) : patternStepEndOp s = s := by
  unfold patternStepEndOp
  split
  · split
    · next hm => exact absurd hm (h _ _ _ _ _)
    · rfl
  · rfl

theorem restBeginOp_eq (hp : s.power = .active) :
    restBeginOp s = if cutDue s.rumble then formLevel (beginRest (s.rumble.runCounter + 1) s) else s := by
  simp only [restBeginOp, cutDue_iff, hp, true_and]

theorem restEndOp_of_resting {t : Nat} (hp : s.power = .active) (hr : s.rumble.rest = some t) :
    restEndOp s = if t ≤ 1 then formLevel (endRest s) else s := by
  simp only [restEndOp, hr, hp, true_and]

theorem restEndOp_of_none (hr : s.rumble.rest = none) : restEndOp s = s := by simp only [restEndOp, hr]

end
end Sys2Proof.Machine
end

section
/-! The invariants of the Rumble Driver and of the event queues (R139, R142, R148 to R150, R157): the ranges that every
operation keeps, and the level that the next forming sets. -/

namespace Sys2Proof.Safety

open Sys2Proof.Machine

/-- The fields of the record in their ranges (R139, R148 to R150); the effective level is not among them. -/
structure RecordInRange (r : RumbleRecord) : Prop where
  mode : modeSound r.mode = true
  limit : r.runLimit % 128 = 0 ∧ 128 ≤ r.runLimit ∧ r.runLimit ≤ 7680
  counter : r.runCounter ≤ 7680 ∧ (r.rest = none → r.runCounter < 7680)
  rest : ∀ t ∈ r.rest, 1 ≤ t ∧ t ≤ 128

/-- Both invariants but for the effective level: what holds also between the parts of an operation, before the level is
formed. -/
structure InRange (s : State) : Prop where
  record : RecordInRange s.rumble
  motor : s.motor ≤ 15 ∧ s.motorFrame ≤ 14
  events : EventsSound s

/-- The effective level as a forming leaves it (R142). -/
def LevelFormed (s : State) : Prop :=
  s.rumble.level ≤ s.battery.rumbleCap ∧ (s.power ≠ .active ∨ s.rumble.rest ≠ none → s.rumble.level = 0)

/-- Both invariants. -/
structure DriverSound (s : State) : Prop where
  inRange : InRange s
  level : LevelFormed s

theorem driverSound_iff (s : State) : DriverSound s ↔ RumbleSound s ∧ EventsSound s := by
  constructor
  · rintro ⟨⟨⟨hmode, ⟨hl1, hl2, hl3⟩, ⟨hc1, hc2⟩, hrest⟩, hmotor, hevents⟩, hcap, hzero⟩
    exact ⟨⟨hmode, hcap, hzero, hl1, hl2, hl3, hc1, hc2, hrest, hmotor⟩, hevents⟩
  · rintro ⟨⟨hmode, hcap, hzero, hl1, hl2, hl3, hc1, hc2, hrest, hmotor⟩, hevents⟩
    exact ⟨⟨⟨hmode, ⟨hl1, hl2, hl3⟩, ⟨hc1, hc2⟩, hrest⟩, hmotor, hevents⟩, hcap, hzero⟩

section
variable {s t : State}

/-- An effective level is one the MOTOR pin can take up (R143). -/
theorem LevelFormed.le (h : LevelFormed s) : s.rumble.level ≤ 15 := Nat.le_trans h.1 (rumbleCap_le _)

/-! ### Beside the driver, and at the forming of the level -/

theorem InRange.beside (h : InRange s) (ht : Beside s t) : InRange t where
  record := by rw [ht.rumble]; exact h.record
  motor := by rw [ht.motor, ht.motorFrame]; exact h.motor
  events := ht.events h.events

theorem DriverSound.beside (h : DriverSound s) (ht : Beside s t) : DriverSound t where
  inRange := h.inRange.beside ht
  level := by
    have hbattery : t.battery = s.battery := congrArg Driver.battery ht.driver
    unfold LevelFormed
    rw [ht.rumble, ht.power, hbattery]
    exact h.level

/-- Another record in its ranges in the place of the present one. -/
theorem InRange.withRecord (h : InRange s) {r : RumbleRecord} (hr : RecordInRange r) : InRange { s with rumble := r } :=
  ⟨hr, h.motor, h.events⟩

theorem RecordInRange.withMode {r : RumbleRecord} (h : RecordInRange r) {m : RumbleMode} (hm : modeSound m = true) :
    RecordInRange { r with mode := m } := { h with mode := hm }

theorem InRange.withMode (h : InRange s) {m : RumbleMode} (hm : modeSound m = true) :
    InRange { s with rumble.mode := m } := h.withRecord (h.record.withMode hm)

/-- The forming of the level completes the invariants (R142). -/
theorem InRange.formLevel (h : InRange s) : DriverSound (formLevel s) where
  inRange := h.withRecord { h.record with }
  level := ⟨formedLevel_le s _, formedLevel_of_silenced _⟩

/-- A mode taken up (R142). -/
theorem DriverSound.takeMode (h : DriverSound s) {m : RumbleMode} (hm : modeSound m = true) :
    DriverSound (Machine.formLevel { s with rumble.mode := m }) := (h.inRange.withMode hm).formLevel

/-! ### Patterns -/

theorem modeSound_pattern {p : Fin 4} {n k l d : Nat} :
    modeSound (.pattern p n k l d) = true ↔ n ≤ 15 ∧ k ≤ 15 ∧ l ≤ 15 ∧ 1 ≤ d ∧ d ≤ 255 := decide_eq_true_iff

theorem stepDuration_le (s : State) (p : Fin 4) (k : Nat) : stepDuration s p k ≤ 255 :=
  Nat.le_of_lt_succ (BitVec.isLt _)

theorem modeSound_loadedStep (s : State) (p : Fin 4) {n k : Nat} (hn : n ≤ 15) (hk : k ≤ 15)
    (hd : stepDuration s p k ≠ 0) : modeSound (loadedStep s p n k) = true :=
  modeSound_pattern.2 ⟨hn, hk, Nat.min_le_right _ _, Nat.pos_of_ne_zero hd, stepDuration_le s p k⟩

theorem modeSound_followingStep {p : Fin 4} {n k : Nat} (hn : n ≤ 15) :
    modeSound ((followingStep s p n k).getD .off) = true := by
  cases hf : followingStep s p n k with
  | none => rfl
  | some m =>
    obtain ⟨i, j, hi, hj, hd, rfl⟩ := followingStep_some hf
    exact modeSound_loadedStep s p (Nat.le_trans hi hn) hj hd

theorem InRange.endPattern (h : InRange s) (p : Fin 4) : InRange (endPattern p s) :=
  (h.withMode (m := .off) rfl).beside (.postGame (.refl _))

/-- A start of a pattern by a command or by an action (R146, R152). -/
theorem InRange.startPattern (h : InRange s) (p : Fin 4) {n : Nat} (hn : n ≤ 15) :
    DriverSound (startPattern p n s) := by
  refine InRange.formLevel ?_
  unfold loadFirst
  split
  · exact h.endPattern p
  · next hd => exact h.withMode (modeSound_loadedStep s p hn (Nat.zero_le 15) hd)

theorem InRange.nextStep (h : InRange s) (p : Fin 4) {n k : Nat} (hn : n ≤ 15) (hp : s.power ≠ .off) :
    InRange (nextStep p n k s) := by
  have hm := modeSound_followingStep (s := s) (p := p) (k := k) hn
  cases hf : followingStep s p n k with
  | none =>
    rw [nextStep_of_none hp hf, ← endPattern_of_on p hp]
    exact h.endPattern p
  | some m =>
    rw [nextStep_of_some hf]
    rw [hf] at hm
    exact h.withMode hm

theorem InRange.sequencePattern (h : InRange s) (hp : s.power ≠ .off) : InRange (sequencePattern s) := by
  unfold Machine.sequencePattern
  split
  · next p n k l d hm =>
    have sound := h.record.mode
    rw [hm] at sound
    obtain ⟨hn, hk, hl, hd, hd'⟩ := modeSound_pattern.1 sound
    split
    · exact h.nextStep p hn hp
    · exact h.withMode (modeSound_pattern.2 ⟨hn, hk, hl, by omega, by omega⟩)
  · exact h

/-! ### Run counter and rest -/

theorem RecordInRange.accounted {r : RumbleRecord} (h : RecordInRange r) : RecordInRange (accounted r) := by
  obtain ⟨-, hlimit⟩ := h.limit
  obtain ⟨hcounter, hbelow⟩ := h.counter
  cases hr : r.rest with
  | some t =>
    obtain ⟨ht, ht'⟩ := h.rest t hr
    rw [accounted_of_rest hr]
    split
    · exact { h with counter := ⟨Nat.zero_le _, fun _ => Nat.zero_lt_succ _⟩, rest := fun _ hx => by cases hx }
    · exact { h with
        counter := ⟨hcounter, fun hx => by cases hx⟩
        rest := fun x hx => by cases hx; omega }
  | none =>
    have hc := hbelow hr
    by_cases hl : 0 < r.level
    · rw [accounted_of_driven hr hl]
      split
      · exact { h with
          counter := ⟨hc, fun hx => by cases hx⟩
          rest := fun x hx => by cases hx; decide }
      · exact { h with
          counter := ⟨hc, fun _ => by show r.runCounter + 1 < 7680; omega⟩
          rest := fun _ hx => by cases hx }
    · rw [accounted_of_still hr (Nat.eq_zero_of_not_pos hl)]
      exact { h with counter := ⟨Nat.le_trans (Nat.sub_le _ _) hcounter, fun _ => Nat.lt_of_le_of_lt (Nat.sub_le _ _) hc⟩ }

theorem InRange.runAccounting (h : InRange s) (hp : s.power ≠ .off) : InRange (runAccounting s) := by
  have posted : Beside s { s with
      gameEvents := if cutDue s.rumble then s.gameEvents.post .rumbleCut 0 else s.gameEvents } := by
    split
    · rw [← postGame_of_on _ _ hp]
      exact .postGame (.refl s)
    · exact .refl s
  rw [runAccounting_eq hp]
  exact (h.beside posted).withRecord h.record.accounted

theorem DriverSound.tickOp (h : DriverSound s) : DriverSound (tickOp s) := by
  unfold Machine.tickOp
  split
  · next hp =>
    have hon : s.power ≠ .off := by rw [hp]; decide
    have counted := h.inRange.runAccounting hon
    exact (counted.sequencePattern (by simpa using hon)).formLevel
  · exact h

theorem DriverSound.patternStepEndOp (h : DriverSound s) : DriverSound (patternStepEndOp s) := by
  unfold Machine.patternStepEndOp
  repeat' split
  · next hp _ p n k l d hm _ =>
    have sound := h.inRange.record.mode
    rw [hm] at sound
    obtain ⟨hn, -⟩ := modeSound_pattern.1 sound
    exact (h.inRange.nextStep p hn (by rw [hp]; decide)).formLevel
  all_goals exact h

theorem DriverSound.restBeginOp (h : DriverSound s) : DriverSound (restBeginOp s) := by
  unfold Machine.restBeginOp
  split
  · next hc =>
    obtain ⟨-, hr, -⟩ := hc
    obtain ⟨-, hbelow⟩ := h.inRange.record.counter
    have begun : RecordInRange { s.rumble with runCounter := s.rumble.runCounter + 1, rest := some 128 } :=
      { h.inRange.record with
        counter := ⟨hbelow hr, fun hx => by cases hx⟩
        rest := fun x hx => by cases hx; decide }
    exact ((h.inRange.withRecord begun).beside (.postGame (.refl _))).formLevel
  · exact h

theorem DriverSound.restEndOp (h : DriverSound s) : DriverSound (restEndOp s) := by
  have ended : RecordInRange { s.rumble with rest := none, runCounter := 0 } :=
    { h.inRange.record with
      counter := ⟨Nat.zero_le _, fun _ => Nat.zero_lt_succ _⟩
      rest := fun _ hx => by cases hx }
  unfold Machine.restEndOp
  repeat' split
  · exact (h.inRange.withRecord ended).formLevel
  all_goals exact h

/-! ### MOTOR periods -/

theorem DriverSound.motorPeriodOp (h : DriverSound s) : DriverSound (motorPeriodOp s) := by
  unfold Machine.motorPeriodOp
  split
  · exact ⟨⟨h.inRange.record, ⟨h.level.le, Nat.zero_le _⟩, h.inRange.events⟩, h.level⟩
  · exact h

/-- A counted frame keeps the period within its fifteen frames (R143). -/
theorem DriverSound.countFrame (h : DriverSound s) : DriverSound (countFrame s) := by
  obtain ⟨hm, hf⟩ := h.inRange.motor
  refine ⟨⟨h.inRange.record, ⟨?_, ?_⟩, h.inRange.events⟩, h.level⟩
  · rw [countFrame_motor]
    split
    · exact h.level.le
    · exact hm
  · rw [countFrame_motorFrame]
    repeat' split
    · exact hf
    · exact Nat.zero_le _
    · next hn =>
      have below : ¬14 ≤ s.motorFrame := fun hx => hn (decide_eq_true hx)
      omega

theorem DriverSound.frameArrivalOp (h : DriverSound s) (w : BitVec 6) : DriverSound (frameArrivalOp w s) := by
  by_cases hp : s.power = .off
  · rw [Machine.frameArrivalOp, if_pos hp]
    exact h.countFrame
  · exact h.countFrame.beside (beside_frameArrivalOp w hp)

/-! ### Rumble commands -/

theorem DriverSound.rumbleDirectOp (h : DriverSound s) (l : Byte) : DriverSound (rumbleDirectOp l s).1 :=
  h.takeMode (m := .direct _) (decide_eq_true (Nat.min_le_right _ _))

theorem DriverSound.rumbleStopOp (h : DriverSound s) : DriverSound (rumbleStopOp s).1 := h.takeMode (m := .off) rfl

theorem DriverSound.rumbleLinkOp (h : DriverSound s) (v : Byte) : DriverSound (rumbleLinkOp v s).1 := by
  unfold Machine.rumbleLinkOp
  split
  · exact h.inRange.formLevel
  · next v _ => exact h.takeMode (m := .linked v) rfl

theorem DriverSound.rumblePatternOp (h : DriverSound s) (p n : Byte) : DriverSound (rumblePatternOp p n s).1 := by
  unfold Machine.rumblePatternOp
  repeat' split
  · exact h.inRange.formLevel
  · exact h.inRange.formLevel
  · next hn => exact h.inRange.startPattern _ (Nat.le_of_not_lt hn)

theorem DriverSound.rumbleLimitOp (h : DriverSound s) (l : Byte) : DriverSound (rumbleLimitOp l s).1 := by
  have limited : RecordInRange { s.rumble with runLimit := 128 * max 1 (min l.toNat 60) } :=
    { h.inRange.record with limit := ⟨Nat.mul_mod_right _ _, by dsimp only; omega, by dsimp only; omega⟩ }
  exact (h.inRange.withRecord limited).formLevel

/-! ### Fires -/

theorem DriverSound.fireAlarm (h : DriverSound s) (e : Fin 8) : DriverSound (fireAlarm s e) := by
  have acted (a : AlarmEntry) {u : State} (hu : DriverSound u) : DriverSound (performAction a u) := by
    unfold performAction
    repeat' split
    · exact hu.inRange.startPattern _ (by decide)
    · exact hu
    · exact hu
  unfold Machine.fireAlarm
  split
  · exact h
  · exact (acted _ (h.beside (.postTo (.refl s)))).beside (beside_setAlarm ..)

theorem DriverSound.fireAll (h : DriverSound s) (es : List (Fin 8)) : DriverSound (fireAll es s) :=
  List.foldlRecOn es Machine.fireAlarm h fun _ hb e _ => hb.fireAlarm e

theorem DriverSound.takeGameDay (h : DriverSound s) : DriverSound (takeGameDay s) := h.fireAll _

theorem DriverSound.takeTime (h : DriverSound s) : DriverSound (takeTime s) := h.fireAll _

theorem DriverSound.takeSecond (h : DriverSound s) : DriverSound (takeSecond s) := by
  refine (h.beside ?_).fireAll _
  exact .of_eq rfl rfl rfl

theorem DriverSound.secondArrivalOp (h : DriverSound s) : DriverSound (secondArrivalOp s) := by
  have turned {u : State} (hu : DriverSound u) : DriverSound (arrivalTurn u) := by
    simp only [arrivalTurn]
    repeat' split
    · exact (hu.beside (beside_turnDay u)).takeGameDay
    · exact hu.beside (beside_turnDay u)
    · exact hu
  have ticked {u : State} (hu : DriverSound u) : DriverSound (calendarSecond u) := by
    unfold calendarSecond
    split
    · exact hu
    · refine (turned ?_).takeTime
      exact hu.beside (.of_eq rfl rfl rfl)
  unfold Machine.secondArrivalOp
  split
  · exact h
  · refine (ticked ?_).takeSecond
    exact h.beside (.of_eq rfl rfl rfl)

theorem DriverSound.countdownExpiryOp (h : DriverSound s) (e : Fin 8) : DriverSound (countdownExpiryOp e s) := by
  unfold Machine.countdownExpiryOp
  repeat' split
  · exact h
  · exact (h.beside (beside_setAlarm ..)).fireAlarm e
  all_goals exact h

theorem DriverSound.alarmArmOp (h : DriverSound s) (m : Master) (e k c a b1 b2 b3 b4 b5 b6 : Byte) :
    DriverSound (alarmArmOp m e k c a b1 b2 b3 b4 b5 b6 s).1 := by
  have armed (e due action) : DriverSound (armEntry m e due action s) := by
    simp only [armEntry]
    split
    · exact (h.beside (beside_setAlarm ..)).fireAlarm e
    · exact h.beside (beside_setAlarm ..)
  simp only [Machine.alarmArmOp, refuse]
  repeat' split
  any_goals exact h
  exact armed _ _ _

theorem DriverSound.firstSetting (h : DriverSound s) (t : DateTime) : DriverSound (firstSetting t s) := by
  refine (h.beside ?_).fireAll _
  exact .postGame (.of_eq rfl rfl rfl)

theorem DriverSound.forwardSetting (h : DriverSound s) (t : DateTime) : DriverSound (forwardSetting t s) := by
  have turned (n : Nat) : DriverSound (applyTurns n (setClock t s, 0)).1 :=
    (h.beside (beside_setClock s t)).beside (beside_applyTurns n (setClock t s, 0))
  have dayTaken (r : State × Nat) (hr : DriverSound r.1) :
      DriverSound (if 0 < r.2 then Machine.takeGameDay r.1 else r.1) := by
    split
    · exact hr.takeGameDay
    · exact hr
  have recorded (u : State) (hu : DriverSound u) (x : SettingRecord) (d : Byte) (es : List (Fin 8)) :
      DriverSound (Machine.fireAll es (postGame .clockSet d { u with setting := x })) := by
    refine (hu.beside ?_).fireAll es
    exact .postGame (.of_eq rfl rfl rfl)
  exact recorded _ (dayTaken _ (turned _)) _ _ _

theorem DriverSound.clockSetOp (h : DriverSound s) (y mo d hr mi sec : Byte) :
    DriverSound (clockSetOp y mo d hr mi sec s).1 := by
  simp only [Machine.clockSetOp, refuse]
  repeat' split
  · exact h
  · exact h.firstSetting _
  · exact h.forwardSetting _
  · exact h.beside (beside_backwardSetting ..)
  · exact h.beside (beside_sameSetting s)

/-! ### Battery, power state and SILENCE -/

theorem DriverSound.batteryOp (h : DriverSound s) (b : Byte) : DriverSound (batteryOp b s).1 := by
  have changed (b : BatteryState) : DriverSound (changeBattery b s) := by
    have formed : DriverSound (Machine.formLevel { s with battery := b }) :=
      InRange.formLevel ⟨h.inRange.record, h.inRange.motor, h.inRange.events⟩
    have told := formed.beside (.postGame (k := .battery) (d := b.code) (.refl _))
    simp only [changeBattery]
    split
    · exact told.beside (.postGame (.refl _))
    · exact told
  unfold Machine.batteryOp
  repeat' split
  · exact h
  · exact h
  · exact changed _

/-- A change of power state: the ranges stay, and the level is formed after it (R153, R186). -/
theorem DriverSound.powerModeOp (h : DriverSound s) (m : Byte) : DriverSound (powerModeOp m s).1 := by
  have under (p : PowerState) : InRange { s with power := p } := ⟨h.inRange.record, h.inRange.motor, h.inRange.events⟩
  have sleeps : DriverSound (enterSleep s) := by
    have paused (u : State) : Beside u (pauseStream u) := by
      unfold pauseStream
      split <;> exact .of_eq rfl rfl rfl
    have voices := (under .sleep).beside (t := pauseVoices { s with power := .sleep }) (.of_eq rfl rfl rfl)
    exact ((voices.beside (paused _)).beside (t := holdDac _) (.of_eq rfl rfl rfl)).formLevel
  have wakes : DriverSound (enterActive s) := by
    have resumed (u : State) : Beside u (resumeStream u) := by
      unfold resumeStream
      split <;> exact .of_eq rfl rfl rfl
    have voices := (under .active).beside (t := resumeVoices { s with power := .active }) (.of_eq rfl rfl rfl)
    exact (voices.beside (resumed _)).formLevel
  unfold Machine.powerModeOp
  repeat' split
  · exact h
  · exact sleeps
  · exact h
  · exact wakes
  · exact h

theorem DriverSound.silenceOp (h : DriverSound s) : DriverSound (silenceOp s).1 := by
  have quiet := h.beside (t := silenceStream (silenceVoices s)) (.of_eq rfl rfl rfl)
  exact quiet.takeMode (m := .off) rfl

/-! ### Supply and reset -/

theorem queueSound_nil : queueSound [] := ⟨Nat.zero_le _, .nil, fun _ he => nomatch he⟩

/-- A driver at its values after power-up or bus reset (R155). -/
theorem DriverSound.of_initial (hr : s.rumble = .initial) (hm : s.motor ≤ 15 ∧ s.motorFrame ≤ 14) (he : EventsSound s) :
    DriverSound s := by
  refine ⟨⟨?_, hm, he⟩, ?_⟩
  · rw [hr]
    exact ⟨rfl, by decide, by decide, fun _ hx => by cases hx⟩
  · unfold LevelFormed
    rw [hr]
    exact ⟨Nat.zero_le _, fun _ => rfl⟩

/-- Whatever stood before, the main domain powers up sound (R190). -/
theorem driverSound_powerUpMain (s : State) (p : PowerState) (b : BatteryState) :
    DriverSound { powerUpMain s with power := p, battery := b } :=
  .of_initial rfl ⟨Nat.zero_le _, Nat.zero_le _⟩ ⟨queueSound_nil, queueSound_nil⟩

theorem DriverSound.supplyRise (h : DriverSound s) : DriverSound (supplyRise s) := by
  unfold Machine.supplyRise
  split
  · refine (driverSound_powerUpMain (if decide (s.retention = .lost) then cellReset s else s) .active .good).beside ?_
    exact .postBoth (.of_eq rfl rfl rfl)
  · exact h

theorem DriverSound.supplyFall (h : DriverSound s) : DriverSound (supplyFall s) := by
  unfold Machine.supplyFall
  split
  · exact h
  · exact driverSound_powerUpMain _ .off .good

theorem beside_busResetStore (s : State) : Beside s (busResetStore s) := by
  have rolled : Beside s (if txnRollsBack s then rollBack .rolledBackReset s else s) := by
    split <;> simp
  simp only [busResetStore]
  generalize (if txnRollsBack s then rollBack .rolledBackReset s else s) = t at rolled ⊢
  split
  · exact rolled.trans (.of_eq rfl rfl rfl)
  · exact rolled

/-- A bus reset empties the game queue, keeps the system queue, and sets the driver's values (R155, R168, R192). -/
theorem InRange.busResetRecords (h : InRange s) : DriverSound (busResetRecords s) := by
  obtain ⟨-, ⟨-, hframe⟩, -, hsystem⟩ := h.beside (beside_busResetStore s)
  simp only [Machine.busResetRecords, resetRumble, resetMixer, resetRing, resetVoices]
  generalize busResetStore s = t at hframe hsystem ⊢
  exact .of_initial rfl ⟨Nat.zero_le _, hframe⟩ ⟨queueSound_nil, hsystem⟩

theorem DriverSound.busResetOp (h : DriverSound s) : DriverSound (busResetOp s) := by
  have marked : DriverSound { s with resetPin := true } := h.beside (.of_eq rfl rfl rfl)
  unfold Machine.busResetOp
  generalize { s with resetPin := true } = u at marked ⊢
  have records := marked.inRange.busResetRecords
  simp only [grantAfterReset]
  repeat' split
  · exact marked
  · exact records.beside (beside_grantPending _)
  · exact records

end
end Sys2Proof.Safety
end

section
/-! The invariants of the Rumble Driver and of the event queues at the two ports, and at every step. -/

namespace Sys2Proof.Safety

open Sys2Proof.Machine

namespace DriverSound

variable {s : State}

/-! ### The main bus -/

/-- The effect of a main-bus command: a rumble command, an ALARM ARM that may fire, or nothing of the driver's. -/
theorem busEffect (h : DriverSound s) (i : Instr) : DriverSound (busEffect i s).1 := by
  cases i with
  | rumbleDirect r l => exact h.rumbleDirectOp l
  | rumblePattern r p n => exact h.rumblePatternOp p n
  | rumbleLink r v => exact h.rumbleLinkOp v
  | rumbleStop r => exact h.rumbleStopOp
  | rumbleLimit r l => exact h.rumbleLimitOp l
  | alarmArm i e k c a b1 b2 b3 b4 b5 b6 => exact h.alarmArmOp .game e k c a b1 b2 b3 b4 b5 b6
  | _ => exact h.beside (by simp [Machine.busEffect, privileged, refuse])

theorem runBus (h : DriverSound s) (r : Bool) (code : Byte) (i : Instr) :
    DriverSound (runBus r code (Machine.busEffect i) s) := by
  unfold Machine.runBus
  split
  · exact ((h.beside (beside_abandonCommand s)).busEffect i).beside (beside_report ..)
  · exact h

theorem takeBus (h : DriverSound s) (b : Byte) (ps : List Byte) : DriverSound (takeBus b ps s) := by
  unfold Machine.takeBus
  split
  · exact (h.busEffect _).beside (beside_report ..)
  · exact h

theorem commandWrite (h : DriverSound s) (b : Byte) : DriverSound (commandWrite b s) := by
  have abandoned := h.beside (beside_abandonCommand s)
  simp only [Machine.commandWrite]
  repeat' split
  · exact abandoned.beside (beside_report _ _ (_, _))
  · exact abandoned.takeBus b []
  · exact abandoned.beside (.of_eq rfl rfl rfl)
  · exact h

/-- A write to the data port (R171, R176): data for the target, a parameter, or the last parameter. -/
theorem dataPortWrite (h : DriverSound s) (b : Byte) : DriverSound (dataPortWrite b s) := by
  have gathered (c : Option PendingCommand) : DriverSound { s with port.command := c } :=
    h.beside (.of_eq rfl rfl rfl)
  simp only [Machine.dataPortWrite]
  repeat' split
  · exact h.beside (beside_targetWrite s b)
  · exact gathered _
  · exact (gathered none).takeBus _ _
  · exact h

/-! ### The side link -/

/-- The effect of a request: a change of battery, power state or clock, an ALARM ARM that may fire, SILENCE, or nothing
of the driver's. -/
theorem linkEffect (h : DriverSound s) (i : Instr) : DriverSound (linkEffect i s).1 := by
  cases i with
  | clockSet i y mo d hr mi sec => exact h.clockSetOp y mo d hr mi sec
  | alarmArm i e k c a b1 b2 b3 b4 b5 b6 => exact h.alarmArmOp .system e k c a b1 b2 b3 b4 b5 b6
  | silence i => exact h.silenceOp
  | battery i b => exact h.batteryOp b
  | powerMode i m => exact h.powerModeOp m
  | _ => exact h.beside (by simp [Machine.linkEffect, noData])

theorem takeLink (h : DriverSound s) (i : Instr) : DriverSound (takeLink (Machine.linkEffect i) s) :=
  (h.linkEffect i).beside (beside_takeLink s _)

theorem withFrame (h : DriverSound s) (f : SideFrame) : DriverSound { s with side.frame := f } :=
  h.beside (.of_eq rfl rfl rfl)

theorem takeFrame (h : DriverSound s) (bytes : List Byte) : DriverSound (takeFrame bytes s) := by
  unfold Machine.takeFrame
  split
  · exact h.takeLink _
  · exact h.beside (beside_takeLink s fun t => (t, .noSuch, []))

theorem clockBit (h : DriverSound s) (b : Bool) : DriverSound (clockBit s b) := by
  have received (bytes : List Byte) : DriverSound (receiveBytes bytes s) := by
    unfold receiveBytes
    repeat' split
    · exact (h.withFrame _).takeFrame bytes
    · exact h.withFrame _
    · exact (h.withFrame _).takeFrame bytes
  unfold Machine.clockBit
  repeat' split
  · exact h
  · exact h
  · exact h.beside (.of_eq rfl rfl rfl)
  · exact h.withFrame _
  · exact received _

theorem clockBits (h : DriverSound s) (bits : List Bool) : DriverSound (clockBits bits s) :=
  List.foldlRecOn bits Machine.clockBit h fun _ hb b _ => hb.clockBit b

/-- A frame read to its end and released. -/
theorem wholeFrame (h : DriverSound s) : DriverSound (releaseSelect (readOut s)) :=
  (h.beside (beside_readOut s)).beside (beside_releaseSelect _)

theorem runLink (h : DriverSound s) (bytes : List Byte) (i : Instr) :
    DriverSound (runLink bytes (Machine.linkEffect i) s) := by
  unfold Machine.runLink
  repeat' split
  · exact h
  · exact ((h.beside (beside_assertSelect s)).takeLink i).wholeFrame
  · exact h.takeLink i
  · exact h.clockBits _

theorem receiveRequest (h : DriverSound s) (b : Byte) : DriverSound (receiveRequest b s) := by
  unfold Machine.receiveRequest
  repeat' split
  · exact h
  · exact ((h.beside (beside_assertSelect s)).clockBits _).wholeFrame
  · exact h.clockBits _

/-! ### Every command and every step -/

theorem walkPages (h : DriverSound s) {t : State} (ht : ∃ k, t = walkPages k s) : DriverSound t := by
  obtain ⟨k, rfl⟩ := ht
  exact h.beside (beside_walkPages s k)

/-- A row that is a byte, an edge or an arrival. -/
theorem arrival (h : DriverSound s) (c : Instr) (hb : c.busBytes = none) (hl : c.linkBytes = none) :
    ∃ t, exec c s = .next t ∧ DriverSound t := by
  cases c with
  | unknownCommand b | commandPortWrite b => exact ⟨_, rfl, h.commandWrite b⟩
  | parameterByteWrite b | dataWrite b => exact ⟨_, rfl, h.dataPortWrite b⟩
  | dataRead => exact ⟨_, rfl, h.beside (beside_dataPortRead s)⟩
  | unknownRequest b => exact ⟨_, rfl, h.receiveRequest b⟩
  | slselAssertion bits => exact ⟨_, rfl, (h.beside (beside_assertSelect s)).clockBits bits⟩
  | slselRelease => exact ⟨_, rfl, h.beside (beside_releaseSelect s)⟩
  | walkPage => exact ⟨_, rfl, h.beside (beside_walkPageOp s)⟩
  | fillWalkDone => exact ⟨_, rfl, h.walkPages (fillWalkDoneOp_pages s)⟩
  | checkWalkDone => exact ⟨_, rfl, h.walkPages (checkWalkDoneOp_pages s)⟩
  | verifyWalkDone => exact ⟨_, rfl, h.walkPages (verifyWalkDoneOp_pages s)⟩
  | busReset => exact ⟨_, rfl, h.busResetOp⟩
  | resetRelease => exact ⟨_, rfl, h.beside (beside_resetReleaseOp s)⟩
  | mainSupplyRise => exact ⟨_, rfl, h.supplyRise⟩
  | mainSupplyFall => exact ⟨_, rfl, h.supplyFall⟩
  | retentionLoss => exact ⟨_, rfl, h.beside (beside_retentionLossOp s)⟩
  | secondArrival => exact ⟨_, rfl, h.secondArrivalOp⟩
  | frameArrival w => exact ⟨_, rfl, h.frameArrivalOp w⟩
  | tick => exact ⟨_, rfl, h.tickOp⟩
  | voiceStep v => exact ⟨_, rfl, h.beside (beside_voiceExpiry s v)⟩
  | streamStep => exact ⟨_, rfl, h.beside (beside_streamExpiry s)⟩
  | envelopeMove v => exact ⟨_, rfl, h.beside (beside_envelopeExpiry s v)⟩
  | countdownExpiry e => exact ⟨_, rfl, h.countdownExpiryOp e⟩
  | patternStepEnd => exact ⟨_, rfl, h.patternStepEndOp⟩
  | restBegin => exact ⟨_, rfl, h.restBeginOp⟩
  | restEnd => exact ⟨_, rfl, h.restEndOp⟩
  | motorPeriod => exact ⟨_, rfl, h.motorPeriodOp⟩
  | hold i | release i | clockSet i | alarmArm i | alarmDisarm i | silence i | eventAck i | eventAckLost i | eventMask i
  | lineEnable i | battery i | powerMode i =>
    cases i
    · cases hb
    · cases hl
  | slotRead | readRecord => cases hl
  | _ => cases hb

/-- Every command keeps both invariants. -/
theorem exec (h : DriverSound s) (c : Instr) : ∃ t, exec c s = .next t ∧ DriverSound t := by
  cases hb : c.busBytes with
  | some bytes =>
    obtain ⟨r, code, he⟩ := exec_of_busBytes c s (by rw [hb]; rfl)
    exact ⟨_, he, h.runBus r code c⟩
  | none =>
    cases hl : c.linkBytes with
    | some bytes => exact ⟨_, exec_of_linkBytes c s bytes hl, h.runLink bytes c⟩
    | none => exact h.arrival c hb hl

/-- A step is the front command's, or an engine clock's. -/
theorem step {t : State} (h : DriverSound s) (ht : step s = .next t) : DriverSound t := by
  unfold Machine.step at ht
  split at ht
  · obtain rfl := Host.Outcome.next.inj ht
    exact h.beside (beside_engineClock s)
  · next c rest _ =>
    obtain ⟨u, hu, sound⟩ := (h.beside (t := { s with pending := rest }) (.of_eq rfl rfl rfl)).exec c
    obtain rfl := Host.Outcome.next.inj (hu.symm.trans ht)
    exact sound

end DriverSound
end Sys2Proof.Safety

open Sys2Proof Sys2Proof.Machine Sys2Proof.Safety

/-- Settles O59: a step beside the driver leaves its record, every other ends with the level formed or the record at its
reset values; posts and acknowledgements keep the queues. -/
theorem rumbleAndEventsStaySound : Obligations.RumbleAndEventsStaySound := fun s s' hr he hs =>
  (driverSound_iff s').1 (((driverSound_iff s).2 ⟨hr, he⟩).step hs)
end

section
/-! The levels of the modes, the rumble commands at their taking, the MOTOR pin over a period, the rows of a tick. -/

namespace Sys2Proof.Safety

open Sys2Proof.Machine

/-! ### Levels (R142) -/

theorem linkedLevel_of_voice (s : State) (v : Fin 5) : linkedLevel s (Fin.ofNat 6 v.val) =
    if s.voices[v].state = .playing then s.voices[v].envelope.volume else 0 := by
  have hv : v.val % 6 = v.val := Nat.mod_eq_of_lt (by omega)
  have index : (Fin.ofNat 6 v.val).val < 5 := by
    show v.val % 6 < 5
    omega
  rw [linkedLevel, dif_pos index]
  simp only [Fin.ofNat, hv, Fin.getElem_fin]

theorem linkedLevel_of_stream (s : State) :
    linkedLevel s 5 = if s.ring.state = .run .playing then s.voice5.envelope.volume else 0 := rfl

/-! ### The commands -/

section
variable {b : Byte} (s : State)

theorem rumbleLinkOp_of_voice (h : b.toNat < 6) :
    rumbleLinkOp b s =
      (withMode (.linked (Fin.ofNat 6 b.toNat)) (linkedLevel s (Fin.ofNat 6 b.toNat)) s, .ok) := by
  have index : (⟨b.toNat, h⟩ : Fin 6) = Fin.ofNat 6 b.toNat := Fin.ext (Nat.mod_eq_of_lt h).symm
  simp only [rumbleLinkOp, indexBelow_of_lt h, index]
  rfl

theorem rumbleLinkOp_refused (h : 6 ≤ b.toNat) : rumbleLinkOp b s = (formLevel s, .noSuch) := by
  simp only [rumbleLinkOp, indexBelow_of_le h, refuseRumble, refuse]

theorem rumblePatternOp_of_pattern {n : Byte} (h : b.toNat < 4) (hn : n.toNat ≤ 15) :
    rumblePatternOp b n s = (startPattern (Fin.ofNat 4 b.toNat) n.toNat s, .ok) := by
  have index : (⟨b.toNat, h⟩ : Fin 4) = Fin.ofNat 4 b.toNat := Fin.ext (Nat.mod_eq_of_lt h).symm
  simp only [rumblePatternOp, indexBelow_of_lt h, index, if_neg (Nat.not_lt.2 hn)]

theorem rumblePatternOp_refused (n : Byte) (h : 4 ≤ b.toNat) : rumblePatternOp b n s = (formLevel s, .noSuch) := by
  simp only [rumblePatternOp, indexBelow_of_le h, refuseRumble, refuse]

theorem rumblePatternOp_refused_range {n : Byte} (h : b.toNat < 4) (hn : 15 < n.toNat) :
    rumblePatternOp b n s = (formLevel s, .range) := by
  simp only [rumblePatternOp, indexBelow_of_lt h, if_pos hn, refuseRumble, refuse]

end

/-- A start of a pattern that has steps (R146). -/
theorem startPattern_of_steps {s : State} {p : Fin 4} (n : Nat) (h : stepDuration s p 0 ≠ 0) :
    startPattern p n s = withMode (loadedStep s p n 0) (min (stepLevelByte s p 0).toNat 15) s := by
  rw [startPattern, loadFirst, if_neg h]
  rfl

/-- A start of an empty pattern is its end (R146). -/
theorem startPattern_of_empty {s : State} {p : Fin 4} (n : Nat) (hp : s.power ≠ .off) (h : stepDuration s p 0 = 0) :
    startPattern p n s = { withMode .off 0 s with
      gameEvents := s.gameEvents.post .rumbleEnd (BitVec.ofNat 8 p.val) } := by
  rw [startPattern, loadFirst, if_pos h, endPattern_of_on p hp]
  rfl

/-! ### The MOTOR pin (R143) -/

theorem driver_countFrame {s : State} (hp : s.power ≠ .off) : driver (countFrame s) = { driver s with
    motor := if 14 ≤ s.motorFrame then s.rumble.level else s.motor
    motorFrame := if 14 ≤ s.motorFrame then 0 else s.motorFrame + 1 } := by
  simp [driver, periodEnds, hp]

/-- A frame passes in the period, of fifteen frames, and leaves the driver's record and the power state. -/
theorem driver_frameArrival {s : State} (first : BitVec 6) (hp : s.power ≠ .off) :
    driver (after (.frameArrival first) s) = { driver s with
      motor := if 14 ≤ s.motorFrame then s.rumble.level else s.motor
      motorFrame := if 14 ≤ s.motorFrame then 0 else s.motorFrame + 1 } :=
  (beside_frameArrivalOp first hp).driver.trans (driver_countFrame hp)

theorem afterAll_replicate_succ (c : Instr) (k : Nat) (s : State) :
    afterAll (List.replicate (k + 1) c) s = after c (afterAll (List.replicate k c) s) := by
  rw [List.replicate_succ', afterAll, List.foldl_append]
  rfl

/-- The frames of a period before its last: they pass, and leave the level the period began with. -/
theorem driver_frames {s : State} (first : BitVec 6) (hp : s.power ≠ .off) (h0 : s.motorFrame = 0) {k : Nat}
    (hk : k ≤ 14) :
    driver (afterAll (List.replicate k (.frameArrival first)) s) = { driver s with motorFrame := k } := by
  induction k with
  | zero => exact congrArg (fun n => { driver s with motorFrame := n }) h0
  | succ k ih =>
    have before := ih (by omega)
    rw [afterAll_replicate_succ]
    generalize afterAll (List.replicate k (.frameArrival first)) s = t at before
    have power : t.power = s.power := congrArg Driver.power before
    have motor : t.motor = s.motor := congrArg Driver.motor before
    have frame : t.motorFrame = k := congrArg Driver.motorFrame before
    have goesOn : ¬14 ≤ k := by omega
    rw [driver_frameArrival first (power ▸ hp), before, frame, motor, if_neg goesOn, if_neg goesOn]
    rfl

/-- The fifteenth frame ends the period, and the next begins with the level standing then. -/
theorem driver_fifteenFrames {s : State} (first : BitVec 6) (hp : s.power ≠ .off) (h0 : s.motorFrame = 0) :
    driver (afterAll (List.replicate 15 (.frameArrival first)) s) = { driver s with
      motor := s.rumble.level, motorFrame := 0 } := by
  have before := driver_frames first hp h0 (Nat.le_refl 14)
  rw [afterAll_replicate_succ]
  generalize afterAll (List.replicate 14 (.frameArrival first)) s = t at before
  have power : t.power = s.power := congrArg Driver.power before
  have rumble : t.rumble = s.rumble := congrArg Driver.rumble before
  have frame : t.motorFrame = 14 := congrArg Driver.motorFrame before
  rw [driver_frameArrival first (power ▸ hp), before, frame, rumble, if_pos (Nat.le_refl 14), if_pos (Nat.le_refl 14)]

theorem motorHigh_of_driver {t : State} {d : Driver} (h : driver t = d) :
    motorHigh t = decide (d.motorFrame < d.motor) := by
  subst h
  rfl

theorem motorPeriodOp_eq (s : State) : motorPeriodOp s =
    if s.power ≠ .off ∧ 14 ≤ s.motorFrame then { s with motor := s.rumble.level, motorFrame := 0 } else s := by
  simp only [motorPeriodOp, periodEnds, decide_eq_true_eq]

/-! ### The rows of a tick (R147 to R149) -/

section
variable {s : State}

theorem restBegin_of_active (hp : s.power = .active) :
    restBeginOp s = if s.rumble.rest = none ∧ 0 < s.rumble.level ∧ s.rumble.runLimit ≤ s.rumble.runCounter + 1 then
        { s with
          rumble := { s.rumble with rest := some 128, level := 0, runCounter := s.rumble.runCounter + 1 }
          gameEvents := s.gameEvents.post .rumbleCut 0 }
      else s := by
  have hon : s.power ≠ .off := by rw [hp]; decide
  have begun : formLevel (beginRest (s.rumble.runCounter + 1) s) = { s with
      rumble := { s.rumble with rest := some 128, level := 0, runCounter := s.rumble.runCounter + 1 }
      gameEvents := s.gameEvents.post .rumbleCut 0 } := by
    rw [beginRest_of_on _ hon, formLevel, effectiveLevel_eq, formedLevel_of_silenced _ (.inr (by simp))]
  rw [restBeginOp_eq hp, begun]
  simp only [cutDue_iff]

theorem restEndOp_of_not_active (hp : s.power ≠ .active) : restEndOp s = s := by
  unfold restEndOp
  split
  · exact if_neg fun h => hp h.1
  · rfl

theorem restEnd_of_active (hp : s.power = .active) :
    restEndOp s = if s.rumble.rest.all (fun k => decide (1 < k)) then s
      else { s with rumble := { s.rumble with
        rest := none, runCounter := 0, level := min (modeLevel s) s.battery.rumbleCap } } := by
  cases hr : s.rumble.rest with
  | none => exact restEndOp_of_none hr
  | some t =>
    have ended : formLevel (endRest s) = { s with rumble := { s.rumble with
        rest := none, runCounter := 0, level := min (modeLevel s) s.battery.rumbleCap } } := by
      rw [formLevel, effectiveLevel_eq, formedLevel_of_active _ (by exact hp) rfl]
      rfl
    rw [restEndOp_of_resting hp hr, ended]
    have goesOn : (some t).all (fun k => decide (1 < k)) = true ↔ ¬t ≤ 1 := decide_eq_true_iff.trans Nat.not_le.symm
    by_cases ht : t ≤ 1
    · rw [if_pos ht, if_neg fun h => goesOn.1 h ht]
    · rw [if_neg ht, if_pos (goesOn.2 ht)]

theorem patternStepEnd_of_active (hp : s.power = .active) :
    patternStepEndOp s = match s.rumble.mode with
      | .pattern p n k _ d =>
        if 1 < d then s else
        match followingStep s p n k with
        | none => { withMode .off 0 s with gameEvents := s.gameEvents.post .rumbleEnd (BitVec.ofNat 8 p.val) }
        | some (.pattern q m j l d) => withMode (.pattern q m j l d) l s
        | some _ => s
      | _ => s := by
  have hon : s.power ≠ .off := by rw [hp]; decide
  cases hm : s.rumble.mode with
  | pattern p n k l d =>
    rw [patternStepEndOp_of_pattern hp hm]
    by_cases hd : d ≤ 1
    · rw [if_pos hd]
      dsimp only
      rw [if_neg (Nat.not_lt.2 hd)]
      cases hf : followingStep s p n k with
      | none => rw [nextStep_of_none hon hf]; rfl
      | some m =>
        obtain ⟨i, j, -, -, -, rfl⟩ := followingStep_some hf
        rw [nextStep_of_some hf]
        rfl
    · rw [if_neg hd]
      exact (if_pos (Nat.lt_of_not_le hd)).symm
  | _ => exact patternStepEndOp_of_other fun _ _ _ _ _ h => by cases hm.symm.trans h

end
end Sys2Proof.Safety

open Sys2Proof Sys2Proof.Machine Sys2Proof.Safety

/-- Settles O46: each command's operation, then its report. -/
theorem rumbleCommandResults : Obligations.RumbleCommandResults := by
  intro r b n s hs formed
  refine ⟨?_, next_runBus r 0x43 hs (rumbleStopOp_power s) rfl, ?_, ?_,
    next_runBus r 0x44 hs (rumbleLimitOp_power b s) rfl⟩
  · refine next_runBus r 0x40 hs (rumbleDirectOp_power b s) ?_
    rw [rumbleDirectOp, clamped_above_eq]
    rfl
  · have taken {t : State} {o : OutcomeCode} := next_runBus (t := t) (o := o) r 0x42 hs (rumbleLinkOp_power b s)
    split
    · next h => exact taken (rumbleLinkOp_refused s h)
    · next h => exact taken (rumbleLinkOp_of_voice s (Nat.lt_of_not_le h))
  · have taken {t : State} {o : OutcomeCode} := next_runBus (t := t) (o := o) r 0x41 hs (rumblePatternOp_power b n s)
    split
    · next h => exact taken (rumblePatternOp_refused s n h)
    · next h =>
      have known := Nat.lt_of_not_le h
      split
      · next hn => exact taken (rumblePatternOp_refused_range s known hn)
      · next hn =>
        have started := rumblePatternOp_of_pattern s known (Nat.le_of_not_lt hn)
        have detail : BitVec.ofNat 8 (Fin.ofNat 4 b.toNat).val = b := by
          apply BitVec.eq_of_toNat_eq
          show b.toNat % 4 % 256 = b.toNat
          omega
        dsimp only
        split
        · next hd =>
          rw [startPattern_of_empty _ hs.1 hd, detail] at started
          exact taken started
        · next hd =>
          rw [startPattern_of_steps _ hd] at started
          exact taken started

/-- Settles O47: the level functions by their cases, the pin by the frames of a period. -/
theorem rumbleLevelsAndPin : Obligations.RumbleLevelsAndPin := by
  refine ⟨fun s p k _ => ⟨rfl, rfl⟩, fun s => ?_, linkedLevel_of_voice, linkedLevel_of_stream, fun s => ?_,
    fun s first k hp h0 => ⟨fun hk => ?_, fun hk => ?_⟩⟩
  · unfold modeLevel
    cases s.rumble.mode <;> rfl
  · unfold effectiveLevel
    cases s.battery <;> rfl
  · exact motorHigh_of_driver (driver_frames first hp h0 (Nat.le_of_lt_succ hk))
  · have passed := driver_fifteenFrames first hp h0
    rw [← hk] at passed
    exact ⟨congrArg Driver.motor passed, motorHigh_of_driver passed⟩

/-- Settles O48: the tick as one equation, read off field by field; the other rows each by their own. -/
theorem rumbleTickResults : Obligations.RumbleTickResults := by
  intro s
  refine ⟨fun hp => ?_, congrArg Host.Outcome.next (motorPeriodOp_eq s), fun hp => ⟨?_,
    congrArg Host.Outcome.next (patternStepEnd_of_active hp), congrArg Host.Outcome.next (restBegin_of_active hp),
    congrArg Host.Outcome.next (restEnd_of_active hp)⟩⟩
  · exact ⟨congrArg _ (if_neg hp), congrArg _ (if_neg hp), congrArg _ (if_neg fun h => hp h.1),
      congrArg _ (restEndOp_of_not_active hp)⟩
  · refine ⟨_, congrArg Host.Outcome.next (tickOp_of_active hp), rfl, fun k hk => ?_, fun hr hl => ?_, fun hr hl => ?_,
      ?_, accounted_runLimit s.rumble, rfl, ?_⟩
    · show (accounted s.rumble).rest = _ ∧ (accounted s.rumble).runCounter = _
      rw [accounted_of_rest hk]
      split <;> exact ⟨rfl, rfl⟩
    · show (accounted s.rumble).runCounter = _ ∧ (accounted s.rumble).rest = _
      rw [accounted_of_driven hr hl]
      exact ⟨rfl, rfl⟩
    · show (accounted s.rumble).runCounter = _ ∧ (accounted s.rumble).rest = _
      rw [accounted_of_still hr hl]
      exact ⟨rfl, hr⟩
    · show sequencedMode s = _
      unfold sequencedMode
      cases s.rumble.mode <;> rfl
    · show sequencedEvents _ = _
      unfold sequencedEvents
      cases s.rumble.mode <;> rfl
end

section
/-! The Event Unit's records: a post by each case of R158's table, and the alert line as a statement about single kinds (R160). -/

namespace Sys2Proof.Machine

/-! ### Kinds as flags -/

theorem EventKind.number_lt (k : EventKind) : k.number < 18 := by
  cases k <;> decide

theorem EventKind.getLsbD_flag (k : EventKind) (i : Nat) : k.flag.getLsbD i = decide (i = k.number) := by
  rw [EventKind.flag, ← BitVec.twoPow_eq, BitVec.getLsbD_twoPow]
  simp [k.number_lt, eq_comm]

/-- A set of kinds that is not empty has a member. -/
theorem any_getLsbD_eq (x : BitVec 18) : (List.finRange 18).any (fun i => x.getLsbD i.val) = (x != 0) := by
  rw [Bool.eq_iff_iff, List.any_eq_true, bne_iff_ne]
  constructor
  · rintro ⟨i, -, hi⟩ rfl
    simp at hi
  · intro hx
    refine Classical.byContradiction fun hnone => hx (BitVec.eq_of_getLsbD_eq fun i hi => ?_)
    have unset : x.getLsbD i = false :=
      Bool.eq_false_iff.2 fun hset => hnone ⟨⟨i, hi⟩, List.mem_finRange _, hset⟩
    exact unset.trans BitVec.getLsbD_zero.symm

/-! ### Posts -/

section
variable {r : EventRecord} {k : EventKind} {d : Byte}

theorem EventRecord.post_of_match (h : r.queue.any (fun e => decide (e.kind = k ∧ e.detail = d)) = true) :
    r.post k d = { r with queue := coalesce k d r.queue } := if_pos h

theorem EventRecord.post_of_room (h : r.queue.any (fun e => decide (e.kind = k ∧ e.detail = d)) = false)
    (room : r.queue.length < 8) :
    r.post k d = { r with queue := r.queue ++ [{ kind := k, detail := d, count := 1 }] } :=
  (if_neg (Bool.not_eq_true _ ▸ h)).trans (if_pos room)

theorem EventRecord.post_of_full (h : r.queue.any (fun e => decide (e.kind = k ∧ e.detail = d)) = false)
    (full : 8 ≤ r.queue.length) : r.post k d = { r with lost := r.lost ||| k.flag } :=
  (if_neg (Bool.not_eq_true _ ▸ h)).trans (if_neg (Nat.not_lt.2 full))

end

section
variable (k : EventKind) (d : Byte) {s : State}

theorem postGame_of_off (h : s.power = .off) : postGame k d s = s := if_pos h

theorem postSystem_of_on (h : s.power ≠ .off) : postSystem k d s = { s with systemEvents := s.systemEvents.post k d } :=
  if_neg h

theorem postSystem_of_off (h : s.power = .off) : postSystem k d s = s := if_pos h

end

/-! ### The alert line -/

/-- The flags of a queue's entries, gathered onto a set of kinds. -/
theorem getLsbD_foldl_flag (q : List EventEntry) (lost : BitVec 18) (i : Nat) :
    (q.foldl (fun acc e => acc ||| e.kind.flag) lost).getLsbD i
      = (lost.getLsbD i || q.any fun e => decide (e.kind.number = i)) := by
  induction q generalizing lost with
  | nil => simp
  | cons e q ih =>
    rw [List.foldl_cons, ih, BitVec.getLsbD_or, e.kind.getLsbD_flag, List.any_cons, Bool.or_assoc]
    simp only [eq_comm (a := i)]

/-- A kind is pending when the lost set or an entry of the queue holds it (R160). -/
theorem EventRecord.getLsbD_pendingKinds (r : EventRecord) (i : Nat) :
    r.pendingKinds.getLsbD i = (r.lost.getLsbD i || r.queue.any fun e => decide (e.kind.number = i)) :=
  getLsbD_foldl_flag r.queue r.lost i

/-- The line is asserted when it is enabled and some kind is pending and unmasked (R160). -/
theorem EventRecord.line_eq_any (r : EventRecord) : r.line = (r.lineEnable && (List.finRange 18).any fun i =>
    (r.lost.getLsbD i.val || r.queue.any fun e => decide (e.kind.number = i.val)) && !r.mask.getLsbD i.val) := by
  have unmasked (i : Fin 18) : (r.pendingKinds &&& ~~~r.mask).getLsbD i.val
      = ((r.lost.getLsbD i.val || r.queue.any fun e => decide (e.kind.number = i.val)) && !r.mask.getLsbD i.val) := by
    rw [BitVec.getLsbD_and, r.getLsbD_pendingKinds, BitVec.getLsbD_not, decide_eq_true i.isLt, Bool.true_and]
  rw [EventRecord.line, ← any_getLsbD_eq]
  simp only [unmasked]

end Sys2Proof.Machine

open Sys2Proof Sys2Proof.Machine

/-- Settles O49: the three branches of a post, the line kind by kind, and the supply's two cases. -/
theorem postsAndAlertLines : Obligations.PostsAndAlertLines := by
  refine ⟨fun e k d => ⟨EventRecord.post_of_match, EventRecord.post_of_room, fun hm full => ?_⟩, EventRecord.line_eq_any,
    fun k d s => ⟨fun hon => ⟨postGame_of_on k d hon, postSystem_of_on k d hon⟩,
      fun hoff => ⟨postGame_of_off k d hoff, postSystem_of_off k d hoff⟩⟩⟩
  rw [EventRecord.post_of_full hm full]
  refine ⟨rfl, fun i => ?_⟩
  rw [BitVec.getLsbD_or, k.getLsbD_flag]
end

section
/-! The commands of the Event Unit (R163 to R166), each as one change of its issuer's record, at either port. -/

namespace Sys2Proof.Safety

open Sys2Proof.Machine

/-! ### The change each command makes -/

theorem eventAckOp_eq (m : Master) (s : State) :
    eventAckOp m s = (modifyEvents m (fun e => { e with queue := e.queue.drop 1 }) s, .ok) := by
  simp only [eventAckOp, List.drop_one]

/-- The eighteen flags are the low bits of the value that the three bytes form, high byte first (R165). -/
theorem maskOf_eq_ofNat (m1 m2 m3 : Byte) :
    maskOf m1 m2 m3 = BitVec.ofNat 18 (m1.toNat * 65536 + m2.toNat * 256 + m3.toNat) := by
  have value : (m1 ++ m2 ++ m3 : BitVec 24).toNat = m1.toNat * 65536 + m2.toNat * 256 + m3.toNat := by
    rw [BitVec.toNat_append, ← Nat.shiftLeft_add_eq_or_of_lt m3.isLt, BitVec.toNat_append,
      ← Nat.shiftLeft_add_eq_or_of_lt m2.isLt, Nat.shiftLeft_eq, Nat.shiftLeft_eq]
    omega
  rw [maskOf, ← value, BitVec.ofNat_toNat]

/-- A refused LINE ENABLE leaves its issuer's record as it is (R166). -/
theorem lineEnableOp_eq (m : Master) (b : Byte) (s : State) :
    lineEnableOp m b s =
      (modifyEvents m (fun e => if b.toNat ≤ 1 then { e with lineEnable := decide (b = 0x01) } else e) s,
        if b.toNat ≤ 1 then .ok else .range) := by
  rw [lineEnableOp, flagOf_eq]
  by_cases h : b.toNat ≤ 1
  · simp only [if_pos h]
  · simp only [if_neg h]
    cases m <;> rfl

/-! ### At the two ports -/

section
variable {s : State} {op : State → Result} {f : EventRecord → EventRecord} {o : OutcomeCode}

theorem next_runBus_modifyEvents (r : Bool) (code : Byte) (h : busReady s) (hop : op s = (modifyEvents .game f s, o)) :
    (Host.Outcome.next (runBus r code op s) : Step)
      = .next (reported r code o { s with gameEvents := f s.gameEvents }) :=
  next_runBus r code h (by rw [hop]; rfl) hop

theorem next_runLink_modifyEvents (bytes : List Byte) (h : linkReady s) (hop : op s = (modifyEvents .system f s, o)) :
    (Host.Outcome.next (runLink bytes (fun t => noData (op t)) s) : Step)
      = .next (replied o [] { s with systemEvents := f s.systemEvents }) :=
  next_runLink bytes h (by rw [hop]; rfl) (congrArg noData hop)

end
end Sys2Proof.Safety

open Sys2Proof Sys2Proof.Machine Sys2Proof.Safety

/-- Settles O50: each command's change of its issuer's record, then the report or the reply of the port. -/
theorem eventCommandResults : Obligations.EventCommandResults := by
  intro r m1 m2 m3 b s acked found masked enabled o
  have masks (m : Master) : eventMaskOp m m1 m2 m3 s = (modifyEvents m masked s, .ok) := by
    rw [eventMaskOp, maskOf_eq_ofNat]
  refine ⟨fun hs => ⟨?_, ?_, ?_, ?_⟩, fun hs => ⟨?_, ?_, ?_, ?_⟩⟩
  · exact next_runBus_modifyEvents r 0x50 hs (eventAckOp_eq .game s)
  · exact next_runBus_modifyEvents r 0x51 hs rfl
  · exact next_runBus_modifyEvents r 0x52 hs (masks .game)
  · exact next_runBus_modifyEvents r 0x53 hs (lineEnableOp_eq .game b s)
  · exact next_runLink_modifyEvents [0x50] hs (eventAckOp_eq .system s)
  · exact next_runLink_modifyEvents [0x51] hs rfl
  · exact next_runLink_modifyEvents [0x52, m1, m2, m3] hs (masks .system)
  · exact next_runLink_modifyEvents [0x53, b] hs (lineEnableOp_eq .system b s)
end

section
/-! The ports without the main supply or with RESET asserted: neither takes anything (R69, R190, R192). -/

namespace Sys2Proof.Safety

open Sys2Proof.Machine

/-! ### The main bus port -/

theorem busAlive_of_dead {s : State} (h : s.power = .off ∨ s.resetPin = true) : busAlive s = false := by
  rcases h with h | h <;> simp [busAlive, h]

section
variable {s : State} (b : Byte) (h : busAlive s = false)
include h

theorem commandWrite_dead : commandWrite b s = s := by simp [commandWrite, h]

theorem dataPortWrite_dead : dataPortWrite b s = s := by simp [dataPortWrite, h]

theorem dataPortRead_dead : dataPortRead s = s := by simp [dataPortRead, h]

/-- A strobe at a dead main bus port is lost. -/
theorem exec_busStrobe_dead (i : Instr) (hi : isBusStrobe i = true) : exec i s = .next s := by
  have whole (hb : i.busBytes.isSome = true) : exec i s = .next s := by
    obtain ⟨r, code, he⟩ := exec_of_busBytes i s hb
    rw [he, runBus_dead r code _ h]
  cases i with
  | commandPortWrite b | unknownCommand b => exact congrArg _ (commandWrite_dead b h)
  | parameterByteWrite b | dataWrite b => exact congrArg _ (dataPortWrite_dead b h)
  | dataRead => exact congrArg _ (dataPortRead_dead h)
  | _ => exact whole hi

end

/-! ### The side link -/

section
variable {s : State} (h : s.power = .off)
include h

theorem assertSelect_off : assertSelect s = s := if_pos h

theorem clockBits_off (bits : List Bool) : clockBits bits s = s := by
  induction bits with
  | nil => rfl
  | cons b bits ih =>
    have bit : clockBit s b = s := if_pos h
    exact (congrArg (clockBits bits) bit).trans ih

theorem receiveRequest_off (b : Byte) : receiveRequest b s = s := if_pos h

/-- Bytes on the side link without the main supply are lost. -/
theorem exec_linkArrival_off (i : Instr) (hi : isLinkArrival i = true) : exec i s = .next s := by
  have whole (hl : i.linkBytes.isSome = true) : exec i s = .next s := by
    obtain ⟨bytes, hb⟩ := Option.isSome_iff_exists.1 hl
    rw [exec_of_linkBytes i s bytes hb, runLink_off bytes _ h]
  cases i with
  | unknownRequest b => exact congrArg _ (receiveRequest_off h b)
  | slselAssertion bits => exact congrArg _ ((congrArg _ (assertSelect_off h)).trans (clockBits_off h bits))
  | _ => exact whole hi

end
end Sys2Proof.Safety

open Sys2Proof Sys2Proof.Machine Sys2Proof.Safety

/-- Settles O7: each port's arrivals at a port that takes nothing. -/
theorem deadPortsTakeNothing : Obligations.DeadPortsTakeNothing :=
  ⟨fun i _ hs hi => exec_busStrobe_dead (busAlive_of_dead hs) i hi, fun i _ hs hi => exec_linkArrival_off hs i hi⟩
end

section
/-! A fall and a rise of the main supply (R188 to R191): the store's end at the fall, the wake note, WAKE in both queues. -/

namespace Sys2Proof.Safety

open Sys2Proof.Machine

theorem rollBack_of_none {s : State} (k : EndKind) (ht : s.txn = none) : rollBack k s = s := by
  rw [rollBack, ht]

theorem rollBack_of_some {s : State} {t : Txn} (k : EndKind) (ht : s.txn = some t) :
    rollBack k s = { joinPool t.staging s with txn := none, note := .ended k t.slot, walk := s.walk.withoutTxn } := by
  rw [rollBack, ht]

/-! ### The main domain at its power-up values -/

/-- Power state `p` with the main domain at its power-up values: ACTIVE after the third step of the start-up sequence
(R190), OFF after a fall, which loses the main domain (R191). -/
def mainAtPowerUp (p : PowerState) (s : State) : State := { s with
  power := p, battery := .good, port := .initial, busData := 0x00, side := .initial, walk := .none
  voices := Vector.replicate 5 .initial, voice5 := .initial, waveMem := [], layout := .short
  ringMem := [], ring := .initial, mixer := .initial, rumble := .initial, patternMem := [], motor := 0, motorFrame := 0
  gameEvents := .initial, systemEvents := .initial }

theorem powerUpMain_eq (p : PowerState) (s : State) :
    { powerUpMain s with power := p, battery := .good } = mainAtPowerUp p s := rfl

/-! ### A fall -/

/-- The date of the day that a commit stamps and a fall records: none while INVALID (R48). -/
theorem stampDate_eq (s : State) : stampDate s = if s.calendar = .running then some s.clock.now.date else none := by
  unfold stampDate
  cases s.calendar <;> rfl

theorem noteFall_eq (s : State) : noteFall s = { s with wake := { s.wake with
    powerDownDay := some s.gameDay.day
    powerDownDate := if s.calendar = .running then some s.clock.now.date else none } } := by
  rw [noteFall, stampDate_eq]

/-- A fall (R45, R191): the note taken, the transaction rolled back, no hold, and the main domain lost. -/
theorem supplyFall_eq {s : State} (hp : s.power ≠ .off) : supplyFall s =
    mainAtPowerUp .off { rollBack .lostPower (noteFall s) with hold := .notHeld } := by
  rw [supplyFall, if_neg hp, powerUpMain_eq]
  rfl

/-! ### A rise -/

theorem missedList_eq (s : State) : missedList s = (List.finRange 8).filterMap fun e =>
    s.alarms[e].bind fun a => if 0 < a.missed then some (e, a.missed) else none := by
  unfold missedList
  congr 1
  funext e
  cases s.alarms[e] <;> rfl

theorem clearMissed_of_free {s : State} (h : s.alarms = Vector.replicate 8 none) : clearMissed s = s := by
  have free : (Vector.ofFn fun e : Fin 8 => s.alarms[e].map fun a => { a with missed := 0 }) = s.alarms := by
    rw [h]
    decide
  rw [clearMissed, free]

/-- The note of a normal start, from a recorded day `d` (R189). -/
theorem normalWake_of_day {s : State} {d : Nat} (hd : s.wake.powerDownDay = some d) : normalWake s = { s.wake with
    afterCellReset := false, daysElapsed := min (s.gameDay.day - d) 65535, missed := missedList s } := by
  simp only [normalWake, hd, Option.getD_some]

/-- A post to both queues of a part that has just powered up is the one entry of each (R158; WAKE by R190, step 5). -/
theorem postBoth_mainAtPowerUp (k : EventKind) (d : Byte) (s : State) :
    postBoth k d (mainAtPowerUp .active s) = { mainAtPowerUp .active s with
    gameEvents := { EventRecord.initial with queue := [{ kind := k, detail := d, count := 1 }] }
    systemEvents := { EventRecord.initial with queue := [{ kind := k, detail := d, count := 1 }] } } := by
  have on : (mainAtPowerUp .active s).power ≠ .off := nofun
  rw [postBoth, postGame_of_on k d on, postSystem_of_on k d (by exact on)]
  rfl

/-- The rise with retention kept: the backup domain as it was, the note completed (R189, R190). -/
theorem startUp_of_kept {s : State} (h : s.retention = .kept) :
    startUp s = postBoth .wake 0 (mainAtPowerUp .active (clearMissed { s with wake := normalWake s })) := by
  have kept : decide (s.retention = .lost) = false := by simp [h]
  have note : completeWake false (mainAtPowerUp .active s)
      = mainAtPowerUp .active (clearMissed { s with wake := normalWake s }) := rfl
  rw [← note, startUp, kept]
  rfl

/-- The rise with retention lost: a cell reset first, and the note of one (R188, R190). -/
theorem startUp_of_lost {s : State} (h : s.retention = .lost) :
    startUp s = postBoth .wake 1 (mainAtPowerUp .active (cellReset s)) := by
  have lost : decide (s.retention = .lost) = true := by simp [h]
  have note : completeWake true (mainAtPowerUp .active (cellReset s)) = mainAtPowerUp .active (cellReset s) :=
    clearMissed_of_free rfl
  rw [← note, startUp, lost]
  rfl

end Sys2Proof.Safety

open Sys2Proof Sys2Proof.Machine Sys2Proof.Safety

/-- Settles O52: the fall by whether there is a transaction, the rise by the retention indicator. -/
theorem supplyResults : Obligations.SupplyResults := by
  intro s lost fallen woken
  refine ⟨fun hoff => ?_, fun hon => ⟨?_, ?_⟩, fun hon ht => ?_, fun x hx hon => ?_, fun hoff => ?_,
    fun d hd hoff hkept => ?_, fun hoff hlost => ?_⟩
  · exact congrArg _ (if_pos hoff)
  · exact congrArg _ (if_neg hon)
  · exact congrArg _ (if_neg hon)
  · have fall := supplyFall_eq hon
    rw [noteFall_eq, rollBack_of_none .lostPower (by exact ht)] at fall
    exact congrArg _ fall
  · have fall := supplyFall_eq hon
    rw [noteFall_eq, rollBack_of_some .lostPower (by exact hx)] at fall
    exact congrArg _ fall
  · exact congrArg _ (if_pos hoff)
  · have rise : supplyRise s = startUp s := if_pos hoff
    rw [startUp_of_kept hkept, normalWake_of_day (by exact hd), missedList_eq, postBoth_mainAtPowerUp] at rise
    exact congrArg _ rise
  · have rise : supplyRise s = startUp s := if_pos hoff
    rw [startUp_of_lost hlost, postBoth_mainAtPowerUp] at rise
    exact congrArg _ rise
end

section
/-! An assertion of RESET (R192): what it makes of the store, and the hold it grants when it ends a walk. -/

namespace Sys2Proof.Safety

open Sys2Proof.Machine

/-! ### The store -/

theorem busResetStore_of_noTxn {s : State} (ht : s.txn = none)
    (hw : s.walk = .none ∨ ∃ n d a b, s.walk = .verify n d a b) : busResetStore s = { s with walk := .none } :=
  busResetStore_eq (by simp [txnRollsBack_of_none ht]) hw

theorem walk_of_sealing {s : State} {t : Txn} {d : Nat} (h : walkSound s = true) (ht : s.txn = some t)
    (hd : t.phase = .sealing d) : ∃ n a b, s.walk = .check n d a b := by
  cases hw : s.walk <;> simp_all [walkSound, Txn.isOpen]

/-- A commit in progress goes on, its check walk with it (R44). -/
theorem busResetStore_of_sealing {s : State} {t : Txn} (h : walkSound s = true) (ht : s.txn = some t)
    (hs : Txn.isSealing t = true) : busResetStore s = s := by
  obtain ⟨d, hd⟩ := sealing_of_isSealing hs
  obtain ⟨n, a, b, hw⟩ := walk_of_sealing h ht hd
  simp [busResetStore, txnRollsBack_of_sealing ht hs, hw]

/-- A FILLING or OPEN transaction is rolled back, and no walk is left (R13, R44). -/
theorem busResetStore_of_rollsBack {s : State} {t : Txn} (ht : s.txn = some t) (hs : Txn.isSealing t = false) :
    busResetStore s = { joinPool t.staging s with
      txn := none, note := .ended .rolledBackReset t.slot, walk := .none } := by
  have rolls : txnRollsBack s = true := by cases hp : t.phase <;> simp_all [txnRollsBack, Txn.isSealing]
  have store := rollBack_of_some .rolledBackReset ht
  rw [busResetStore_eq (if_pos rolls) (by rw [store]; exact withoutTxn_cases s.walk), store]

/-! ### The grant -/

section
variable {s t : State}

theorem grantAfterReset_of_noWalk (h : s.walk = .none) : grantAfterReset s t = t := by
  simp [grantAfterReset, walkInFlight, h]

theorem grantAfterReset_of_walk (h : t.walk ≠ .none) : grantAfterReset s t = t := by
  simp [grantAfterReset, walkInFlight, h]

theorem grantAfterReset_of_ended (hs : s.walk ≠ .none) (ht : t.walk = .none) : grantAfterReset s t = grantPending t := by
  simp [grantAfterReset, walkInFlight, hs, ht]

end

/-- A hold that waited, granted where there is no transaction to suspend (R39). -/
theorem grantPending_of_noTxn {s : State} (hp : s.power ≠ .off) (ht : s.txn = none) :
    grantPending s = match s.hold with | .pending m => granted m s | _ => s := by
  cases hh : s.hold with
  | pending m => rw [grantPending_of_pending hh, grantHold_of_noTxn m hp ht]
  | notHeld => exact grantPending_of_notHeld hh
  | held m => exact grantPending_of_held hh

/-- The game side at its power-up values, beside the store (R192, the table). -/
def gameSideReset (s : State) : State :=
  resetRumble (resetMixer (resetRing (resetVoices { s with port := .initial, gameEvents := .initial })))

theorem busResetRecords_eq (s : State) : busResetRecords s = gameSideReset (busResetStore s) := rfl

/-- An assertion while the main supply is present (R192). -/
theorem busResetOp_of_on {s : State} (hp : s.power ≠ .off) :
    busResetOp s = grantAfterReset s (gameSideReset (busResetStore { s with resetPin := true })) := by
  rw [← busResetRecords_eq]
  exact if_neg hp

end Sys2Proof.Safety

open Sys2Proof Sys2Proof.Machine Sys2Proof.Safety

/-- Settles O53: by the transaction, then by whether a walk ends. -/
theorem busResetResult : Obligations.BusResetResult := by
  intro s game grant
  have assertion {t u : State} (hon : s.power ≠ .off) (store : busResetStore { s with resetPin := true } = t)
      (hu : grantAfterReset s (gameSideReset t) = u) : exec .busReset s = .next u :=
    congrArg _ ((busResetOp_of_on hon).trans (by rw [store, hu]))
  refine ⟨rfl, fun hoff => congrArg _ (if_pos hoff), fun hon ht hw => ?_, fun n d a b hw hon ht => ?_,
    fun x hx hon hsound hseal => ?_, fun x hx hon hsound hopen => ?_⟩
  · refine assertion hon (busResetStore_of_noTxn ht (.inl hw)) ((grantAfterReset_of_noWalk hw).trans ?_)
    rw [← hw]
    rfl
  · refine assertion hon (busResetStore_of_noTxn ht (.inr ⟨n, d, a, b, hw⟩))
      ((grantAfterReset_of_ended (by simp [hw]) rfl).trans (grantPending_of_noTxn hon ht))
  · obtain ⟨d, hd⟩ := sealing_of_isSealing hseal
    obtain ⟨n, a, b, hw⟩ := walk_of_sealing hsound hx hd
    have goesOn : s.walk ≠ .none := by simp [hw]
    exact assertion hon (busResetStore_of_sealing hsound hx hseal) (grantAfterReset_of_walk goesOn)
  · refine assertion hon (busResetStore_of_rollsBack hx hopen) ?_
    by_cases hw : s.walk = .none
    · exact (grantAfterReset_of_noWalk hw).trans (if_pos hw).symm
    · exact (grantAfterReset_of_ended hw rfl).trans ((grantPending_of_noTxn (by exact hon) (by rfl)).trans (if_neg hw).symm)
end

section
/-! Every command answers a next state and leaves the queue of waiting commands as it is: at the main bus, at the side
link, and for the bytes, edges and arrivals; and a step takes the queue's front. -/

namespace Sys2Proof.Machine

/-! ### The two ports -/

/-- The main bus port keeps the queue when the command's own effect does. -/
theorem runBus_pending {op : State → Result} (hop : ∀ t, (op t).1.pending = t.pending) (r : Bool) (code : Byte)
    (s : State) : (runBus r code op s).pending = s.pending := by
  unfold runBus
  split
  · rw [report_pending, hop, abandonCommand_pending]
  · rfl

theorem takeLink_pending {op : State → LinkResult} (hop : ∀ t, (op t).1.pending = t.pending) (s : State) :
    (takeLink op s).pending = s.pending := by
  simp only [takeLink]
  split
  · rw [postSystem_pending, hop]
  · exact hop s

/-- A row of the side link keeps the queue when the request's own effect does, wherever the frame stands. -/
theorem runLink_pending {op : State → LinkResult} (hop : ∀ t, (op t).1.pending = t.pending) (bytes : List Byte)
    (s : State) : (runLink bytes op s).pending = s.pending := by
  unfold runLink
  split
  · rfl
  · split
    · rw [releaseSelect_pending, readOut_pending, takeLink_pending hop, assertSelect_pending]
    · exact takeLink_pending hop s
    · exact clockIn_pending bytes s

theorem receiveRequest_pending (b : Byte) (s : State) : (receiveRequest b s).pending = s.pending := by
  unfold receiveRequest
  split
  · rfl
  · split
    · rw [releaseSelect_pending, readOut_pending, clockIn_pending, assertSelect_pending]
    · exact clockIn_pending [b] s

theorem selection_pending (bits : List Bool) (s : State) : (clockBits bits (assertSelect s)).pending = s.pending :=
  (clockBits_pending bits _).trans (assertSelect_pending s)

/-! ### Reset and retention -/

theorem resetReleaseOp_pending (s : State) : (resetReleaseOp s).pending = s.pending := rfl

theorem retentionLossOp_pending (s : State) : (retentionLossOp s).pending = s.pending := by
  unfold retentionLossOp
  split <;> rfl

/-! ### A step -/

/-- A step with a command waiting runs it in the state that holds the rest of the queue. -/
theorem step_of_pending_cons {s : State} {c : Instr} {rest : List Instr} (h : s.pending = c :: rest) :
    step s = exec c { s with pending := rest } := by
  rw [step, h]

end Sys2Proof.Machine

namespace Sys2Proof.Safety

open Sys2Proof.Machine

/-! ### Every command -/

/-- A row that is a byte, an edge or an arrival. -/
theorem arrival_keepsQueue (c : Instr) (s : State) (hb : c.busBytes = none) (hl : c.linkBytes = none) :
    ∃ t, exec c s = .next t ∧ t.pending = s.pending := by
  cases c with
  | unknownCommand b | commandPortWrite b => exact ⟨_, rfl, commandWrite_pending b s⟩
  | parameterByteWrite b | dataWrite b => exact ⟨_, rfl, dataPortWrite_pending b s⟩
  | dataRead => exact ⟨_, rfl, dataPortRead_pending s⟩
  | unknownRequest b => exact ⟨_, rfl, receiveRequest_pending b s⟩
  | slselAssertion bits => exact ⟨_, rfl, selection_pending bits s⟩
  | slselRelease => exact ⟨_, rfl, releaseSelect_pending s⟩
  | walkPage => exact ⟨_, rfl, walkPageOp_pending s⟩
  | fillWalkDone => exact ⟨_, rfl, fillWalkDoneOp_pending s⟩
  | checkWalkDone => exact ⟨_, rfl, checkWalkDoneOp_pending s⟩
  | verifyWalkDone => exact ⟨_, rfl, verifyWalkDoneOp_pending s⟩
  | busReset => exact ⟨_, rfl, busResetOp_pending s⟩
  | resetRelease => exact ⟨_, rfl, resetReleaseOp_pending s⟩
  | mainSupplyRise => exact ⟨_, rfl, supplyRise_pending s⟩
  | mainSupplyFall => exact ⟨_, rfl, supplyFall_pending s⟩
  | retentionLoss => exact ⟨_, rfl, retentionLossOp_pending s⟩
  | secondArrival => exact ⟨_, rfl, secondArrivalOp_pending s⟩
  | frameArrival w => exact ⟨_, rfl, frameArrivalOp_pending w s⟩
  | tick => exact ⟨_, rfl, tickOp_pending s⟩
  | voiceStep v => exact ⟨_, rfl, voiceExpiry_pending v s⟩
  | streamStep => exact ⟨_, rfl, streamExpiry_pending s⟩
  | envelopeMove v => exact ⟨_, rfl, envelopeExpiry_pending v s⟩
  | countdownExpiry e => exact ⟨_, rfl, countdownExpiryOp_pending e s⟩
  | patternStepEnd => exact ⟨_, rfl, patternStepEndOp_pending s⟩
  | restBegin => exact ⟨_, rfl, restBeginOp_pending s⟩
  | restEnd => exact ⟨_, rfl, restEndOp_pending s⟩
  | motorPeriod => exact ⟨_, rfl, motorPeriodOp_pending s⟩
  | hold i | release i | clockSet i | alarmArm i | alarmDisarm i | silence i | eventAck i | eventAckLost i | eventMask i
  | lineEnable i | battery i | powerMode i =>
    cases i
    · cases hb
    · cases hl
  | slotRead | readRecord => cases hl
  | _ => cases hb

/-- Every command answers a next state, with the same commands waiting: a main-bus row, a request row, or another. -/
theorem exec_keepsQueue (c : Instr) (s : State) : ∃ t, exec c s = .next t ∧ t.pending = s.pending := by
  cases hb : c.busBytes with
  | some bytes =>
    obtain ⟨r, code, he⟩ := exec_of_busBytes c s (by rw [hb]; rfl)
    exact ⟨_, he, runBus_pending (busEffect_pending c) r code s⟩
  | none =>
    cases hl : c.linkBytes with
    | some bytes => exact ⟨_, exec_of_linkBytes c s bytes hl, runLink_pending (linkEffect_pending c) bytes s⟩
    | none => exact arrival_keepsQueue c s hb hl

end Sys2Proof.Safety

open Sys2Proof Sys2Proof.Machine Sys2Proof.Safety

/-- Settles O1: the queue that stands in the state is its front and its rest. -/
theorem stepRunsFrontCommand : Obligations.StepRunsFrontCommand := fun _ _ _ => step_of_pending_cons rfl

/-- Settles O2: by what the row is, a main-bus command, a request, or a byte, edge or arrival. -/
theorem everyCommandCompletes : Obligations.EveryCommandCompletes := exec_keepsQueue
end

section
/-! What an operation of one block leaves of the others: the state with a block's own records blanked, and that every
operation of the block keeps the rest. -/

namespace Sys2Proof.Machine

/-! ### The state outside a block -/

/-- The state but for Save Store, Transaction Unit and the event records. -/
def outsideStore (s : State) : State := { s with
  pages := [], slots := Vector.replicate 8 none, pool := [], note := .none, walk := .none, txn := none, hold := .notHeld
  gameEvents := .initial, systemEvents := .initial }

/-- The state but for voices, waveform memory, stream ring, Mixer and the game queue. -/
def outsideSound (s : State) : State := { s with
  voices := Vector.replicate 5 .initial, voice5 := .initial, waveMem := [], layout := .short, ringMem := [], ring := .initial
  mixer := .initial, gameEvents := .initial }

/-- The state but for the rumble record, the MOTOR period and the game queue. -/
def outsideDriver (s : State) : State := { s with rumble := .initial, motor := 0, motorFrame := 0, gameEvents := .initial }

/-- The state but for the alarm entries and what a fire brings: the rumble record and both event records. -/
def outsideAlarms (s : State) : State := { s with
  alarms := Vector.replicate 8 none, rumble := .initial, gameEvents := .initial, systemEvents := .initial }

/-- The state but for the port record, the last byte read and the game's event record. -/
def outsideBus (s : State) : State := { s with port := .initial, busData := 0x00, gameEvents := .initial }

/-- The state but for the side link and the system's event record. -/
def outsideLink (s : State) : State := { s with side := .initial, systemEvents := .initial }

/-- The state but for what a setting of the clock or a turn writes: the Calendar's records but for day start and catch-up
limit, and what the fires bring. -/
def outsideCalendar (s : State) : State := { outsideAlarms s with
  calendar := .invalid, clock := .initial, gameDay := { s.gameDay with day := 0, debt := 0 }, setting := .initial }

/-- The state but for what BATTERY, POWER MODE and SILENCE write. -/
def outsideSupply (s : State) : State := { s with
  power := .off, battery := .good, voices := Vector.replicate 5 .initial, ring := .initial, mixer := .initial
  rumble := .initial, gameEvents := .initial }

section
variable (s : State) (k : EventKind) (d : Byte)

/-! ### Posts -/

@[simp] theorem outsideStore_postGame : outsideStore (postGame k d s) = outsideStore s := by
  unfold postGame; split <;> rfl

@[simp] theorem outsideStore_postSystem : outsideStore (postSystem k d s) = outsideStore s := by
  unfold postSystem; split <;> rfl

@[simp] theorem outsideStore_postBoth : outsideStore (postBoth k d s) = outsideStore s := by simp [postBoth]

@[simp] theorem outsideSound_postGame : outsideSound (postGame k d s) = outsideSound s := by
  unfold postGame; split <;> rfl

@[simp] theorem outsideDriver_postGame : outsideDriver (postGame k d s) = outsideDriver s := by
  unfold postGame; split <;> rfl

@[simp] theorem outsideBus_postGame : outsideBus (postGame k d s) = outsideBus s := by
  unfold postGame; split <;> rfl

@[simp] theorem outsideLink_postSystem : outsideLink (postSystem k d s) = outsideLink s := by
  unfold postSystem; split <;> rfl

/-! ### Save Store and Transaction Unit -/

@[simp] theorem outsideStore_grantHold (m : HoldMode) : outsideStore (grantHold m s) = outsideStore s :=
  outsideStore_postBoth _ _ _

@[simp] theorem outsideStore_grantPending : outsideStore (grantPending s) = outsideStore s := by
  unfold grantPending; split <;> simp

@[simp] theorem outsideStore_rollBack (e : EndKind) : outsideStore (rollBack e s) = outsideStore s := by
  unfold rollBack; split <;> rfl

@[simp] theorem outsideStore_rollBackWithFail (e : EndKind) : outsideStore (rollBackWithFail e s) = outsideStore s := by
  unfold rollBackWithFail; split <;> simp

@[simp] theorem outsideStore_openOp (n z m : Byte) : outsideStore (openOp n z m s).1 = outsideStore s := by
  simp only [openOp, refuse]
  repeat' split
  all_goals rfl

@[simp] theorem outsideStore_commitOp : outsideStore (commitOp s).1 = outsideStore s := by
  simp only [commitOp, refuse]
  repeat' split
  all_goals rfl

@[simp] theorem outsideStore_abortOp : outsideStore (abortOp s).1 = outsideStore s := by
  simp only [abortOp, refuse]
  repeat' split
  all_goals simp

@[simp] theorem outsideStore_eraseOp (n : Byte) : outsideStore (eraseOp n s).1 = outsideStore s := by
  simp only [eraseOp, refuse]
  repeat' split
  all_goals rfl

@[simp] theorem outsideStore_verifyOp (n : Byte) : outsideStore (verifyOp n s).1 = outsideStore s := by
  simp only [verifyOp, refuse]
  repeat' split
  all_goals rfl

@[simp] theorem outsideStore_withHold (x : HoldRecord) : outsideStore { s with hold := x } = outsideStore s := rfl

@[simp] theorem outsideStore_holdOp (m : Byte) : outsideStore (holdOp m s).1 = outsideStore s := by
  have rolled (x : HoldRecord) : outsideStore { rollBackWithFail .droppedByHold s with hold := x } = outsideStore s :=
    outsideStore_rollBackWithFail s .droppedByHold
  simp only [holdOp, newHold, upgradeHold, refuse]
  repeat' split
  any_goals exact rolled _
  all_goals simp

@[simp] theorem outsideStore_releaseOp : outsideStore (releaseOp s).1 = outsideStore s := by
  unfold releaseOp
  split
  · rfl
  · rfl
  · exact outsideStore_postBoth _ _ _

@[simp] theorem outsideStore_fillWalkPage (n : SlotNo) (i : Nat) : outsideStore (fillWalkPage n i s) = outsideStore s := by
  simp only [fillWalkPage, fillComplete]
  repeat' split
  · rfl
  · rfl
  · exact (outsideStore_grantPending _).trans (outsideStore_postGame ..)

@[simp] theorem outsideStore_checkWalkPage (n : SlotNo) (i a b : Nat) :
    outsideStore (checkWalkPage n i a b s) = outsideStore s := by
  simp only [checkWalkPage, switchSlot]
  repeat' split
  · rfl
  · rfl
  · exact (outsideStore_grantPending _).trans (outsideStore_postGame ..)

@[simp] theorem outsideStore_verifyWalkPage (n : SlotNo) (i a b : Nat) :
    outsideStore (verifyWalkPage n i a b s) = outsideStore s := by
  simp only [verifyWalkPage, verifyComplete]
  repeat' split
  · rfl
  · exact outsideStore_grantPending _
  · exact outsideStore_grantPending _
  · exact (outsideStore_grantPending _).trans (outsideStore_postGame ..)

@[simp] theorem outsideStore_walkPageOp : outsideStore (walkPageOp s) = outsideStore s := by
  unfold walkPageOp; split <;> simp

@[simp] theorem outsideStore_walkPages (n : Nat) : outsideStore (walkPages n s) = outsideStore s := by
  induction n generalizing s with
  | zero => rfl
  | succ j ih => exact (ih _).trans (outsideStore_walkPageOp s)

@[simp] theorem outsideStore_busResetStore : outsideStore (busResetStore s) = outsideStore s := by
  have rolled : outsideStore (if txnRollsBack s then rollBack .rolledBackReset s else s) = outsideStore s := by
    split <;> simp
  simp only [busResetStore]
  generalize (if txnRollsBack s then rollBack .rolledBackReset s else s) = t at rolled ⊢
  split <;> exact rolled

/-! ### Voices, stream and Mixer -/

@[simp] theorem outsideSound_setVoice (v : Fin 5) (x : TableVoice) : outsideSound (setVoice v x s) = outsideSound s := rfl

@[simp] theorem outsideSound_voiceSetOp (v c b l f : Byte) : outsideSound (voiceSetOp v c b l f s).1 = outsideSound s := by
  simp only [voiceSetOp, refuse]
  repeat' split
  all_goals rfl

@[simp] theorem outsideSound_voiceStartOp (m : Byte) : outsideSound (voiceStartOp m s).1 = outsideSound s := by
  simp only [voiceStartOp]; split <;> rfl

@[simp] theorem outsideSound_voiceStopOp (m : Byte) : outsideSound (voiceStopOp m s).1 = outsideSound s := by
  simp only [voiceStopOp]; split <;> rfl

@[simp] theorem outsideSound_voicePitchOp (v : Byte) (x : Half) (t : Byte) :
    outsideSound (voicePitchOp v x t s).1 = outsideSound s := by
  simp only [voicePitchOp, refuse]
  repeat' split
  all_goals rfl

@[simp] theorem outsideSound_setEnvelope (v : Fin 6) (e : Envelope) : outsideSound (setEnvelope v e s) = outsideSound s := by
  unfold setEnvelope; split <;> rfl

@[simp] theorem outsideSound_voiceLevelOp (v l x e : Byte) : outsideSound (voiceLevelOp v l x e s).1 = outsideSound s := by
  simp only [voiceLevelOp, refuse]
  repeat' split
  all_goals simp

@[simp] theorem outsideSound_waveLayoutOp (l : Byte) : outsideSound (waveLayoutOp l s).1 = outsideSound s := by
  unfold waveLayoutOp; split <;> rfl

@[simp] theorem outsideSound_ringSetOp (m : Byte) : outsideSound (ringSetOp m s).1 = outsideSound s := rfl

@[simp] theorem outsideSound_ringFlushOp : outsideSound (ringFlushOp s).1 = outsideSound s := rfl

@[simp] theorem outsideSound_mixSetOp (v m e : Byte) : outsideSound (mixSetOp v m e s).1 = outsideSound s := by
  unfold mixSetOp; split <;> rfl

@[simp] theorem outsideSound_clipClearOp : outsideSound (clipClearOp s).1 = outsideSound s := rfl

@[simp] theorem outsideSound_ringWrite (b : Byte) : outsideSound (ringWrite b s) = outsideSound s := by
  rw [ringWrite_frame]; rfl

@[simp] theorem outsideSound_voiceExpiry (v : Fin 5) : outsideSound (voiceExpiry v s) = outsideSound s := by
  simp only [voiceExpiry, stepVoice]
  repeat' split
  all_goals simp

@[simp] theorem outsideSound_streamExpiry : outsideSound (streamExpiry s) = outsideSound s := by
  simp only [streamExpiry, streamStep]
  repeat' split
  · exact outsideSound_postGame ..
  · exact outsideSound_postGame ..
  all_goals rfl

@[simp] theorem outsideSound_moveEnvelope (v : Fin 6) : outsideSound (moveEnvelope v s) = outsideSound s := by
  simp only [moveEnvelope, stopAtZero]
  repeat' split
  all_goals simp

@[simp] theorem outsideSound_envelopeExpiry (v : Fin 6) : outsideSound (envelopeExpiry v s) = outsideSound s := by
  simp only [envelopeExpiry]; split <;> simp

@[simp] theorem outsideSound_envelopeFrame (v : Fin 6) : outsideSound (envelopeFrame v s) = outsideSound s := by
  simp only [envelopeFrame]
  repeat' split
  all_goals simp

/-- A fold of operations that keep a view of the state keeps it. -/
theorem view_foldl {α β : Type} {view : State → β} {f : State → α → State} (h : ∀ t a, view (f t a) = view t) (l : List α) :
    view (l.foldl f s) = view s :=
  List.foldlRecOn l f (motive := fun t => view t = view s) rfl fun t ht a _ => (h t a).trans ht

@[simp] theorem outsideSound_envelopeFrames (w : BitVec 6) (b : Bool) :
    outsideSound (envelopeFrames w b s) = outsideSound s :=
  view_foldl s (fun t v => by split <;> simp) _

@[simp] theorem outsideSound_mixFrame : outsideSound (mixFrame s) = outsideSound s := by
  simp only [mixFrame]
  repeat' split
  · exact outsideSound_postGame ..
  all_goals rfl

theorem outsideSound_voiceClock (v : Fin 5) : outsideSound (voiceClock s v) = outsideSound s := by
  simp only [voiceClock]
  repeat' split
  all_goals simp

@[simp] theorem outsideSound_engineClock : outsideSound (engineClock s) = outsideSound s := by
  have stream (t : State) : outsideSound (streamClock t) = outsideSound t := by
    simp only [streamClock]
    repeat' split
    · exact outsideSound_streamExpiry t
    all_goals rfl
  exact (stream _).trans (view_foldl s outsideSound_voiceClock _)

/-! ### Rumble Driver -/

@[simp] theorem outsideDriver_formLevel : outsideDriver (formLevel s) = outsideDriver s := rfl

@[simp] theorem outsideDriver_endPattern (p : Fin 4) : outsideDriver (endPattern p s) = outsideDriver s :=
  outsideDriver_postGame _ _ _

@[simp] theorem outsideDriver_loadFirst (p : Fin 4) (n : Nat) : outsideDriver (loadFirst p n s) = outsideDriver s := by
  unfold loadFirst
  split
  · exact outsideDriver_endPattern s p
  · rfl

@[simp] theorem outsideDriver_startPattern (p : Fin 4) (n : Nat) : outsideDriver (startPattern p n s) = outsideDriver s :=
  outsideDriver_loadFirst s p n

@[simp] theorem outsideDriver_nextStep (p : Fin 4) (n i : Nat) : outsideDriver (nextStep p n i s) = outsideDriver s := by
  unfold nextStep
  repeat' split
  · rfl
  all_goals simp

@[simp] theorem outsideDriver_sequencePattern : outsideDriver (sequencePattern s) = outsideDriver s := by
  unfold sequencePattern
  repeat' split
  · simp
  all_goals rfl

@[simp] theorem outsideDriver_beginRest (c : Nat) : outsideDriver (beginRest c s) = outsideDriver s :=
  outsideDriver_postGame _ _ _

@[simp] theorem outsideDriver_runAccounting : outsideDriver (runAccounting s) = outsideDriver s := by
  unfold runAccounting
  repeat' split
  · rfl
  · rfl
  · simp
  all_goals rfl

@[simp] theorem outsideDriver_tickOp : outsideDriver (tickOp s) = outsideDriver s := by
  unfold tickOp; split <;> simp

@[simp] theorem outsideDriver_patternStepEndOp : outsideDriver (patternStepEndOp s) = outsideDriver s := by
  unfold patternStepEndOp
  repeat' split
  all_goals simp

@[simp] theorem outsideDriver_restBeginOp : outsideDriver (restBeginOp s) = outsideDriver s := by
  unfold restBeginOp; split <;> simp

@[simp] theorem outsideDriver_restEndOp : outsideDriver (restEndOp s) = outsideDriver s := by
  unfold restEndOp
  repeat' split
  all_goals rfl

@[simp] theorem outsideDriver_motorPeriodOp : outsideDriver (motorPeriodOp s) = outsideDriver s := by
  unfold motorPeriodOp; split <;> rfl

@[simp] theorem outsideDriver_rumbleDirectOp (l : Byte) : outsideDriver (rumbleDirectOp l s).1 = outsideDriver s := rfl
@[simp] theorem outsideDriver_rumbleStopOp : outsideDriver (rumbleStopOp s).1 = outsideDriver s := rfl
@[simp] theorem outsideDriver_rumbleLimitOp (l : Byte) : outsideDriver (rumbleLimitOp l s).1 = outsideDriver s := rfl

@[simp] theorem outsideDriver_rumbleLinkOp (v : Byte) : outsideDriver (rumbleLinkOp v s).1 = outsideDriver s := by
  unfold rumbleLinkOp; split <;> rfl

@[simp] theorem outsideDriver_rumblePatternOp (p n : Byte) : outsideDriver (rumblePatternOp p n s).1 = outsideDriver s := by
  unfold rumblePatternOp
  repeat' split
  · rfl
  · rfl
  · simp

/-! ### Alarm Table -/

@[simp] theorem outsideAlarms_setAlarm (e : Fin 8) (x : Option AlarmEntry) :
    outsideAlarms (setAlarm e x s) = outsideAlarms s := rfl

@[simp] theorem outsideAlarms_fireAlarm (e : Fin 8) : outsideAlarms (fireAlarm s e) = outsideAlarms s := by
  rw [fireAlarm_eq]; rfl

@[simp] theorem outsideAlarms_fireAll (es : List (Fin 8)) : outsideAlarms (fireAll es s) = outsideAlarms s := by
  rw [fireAll_eq]; rfl

@[simp] theorem outsideAlarms_takeGameDay : outsideAlarms (takeGameDay s) = outsideAlarms s := outsideAlarms_fireAll s _
@[simp] theorem outsideAlarms_takeTime : outsideAlarms (takeTime s) = outsideAlarms s := outsideAlarms_fireAll s _

@[simp] theorem outsideAlarms_takeSecond : outsideAlarms (takeSecond s) = outsideAlarms s := outsideAlarms_fireAll _ _

@[simp] theorem outsideAlarms_countdownExpiryOp (e : Fin 8) : outsideAlarms (countdownExpiryOp e s) = outsideAlarms s := by
  unfold countdownExpiryOp
  repeat' split
  all_goals simp

@[simp] theorem outsideAlarms_alarmArmOp (m : Master) (e i c a b1 b2 b3 b4 b5 b6 : Byte) :
    outsideAlarms (alarmArmOp m e i c a b1 b2 b3 b4 b5 b6 s).1 = outsideAlarms s := by
  simp only [alarmArmOp, refuse, armEntry]
  repeat' split
  all_goals simp

@[simp] theorem outsideAlarms_alarmDisarmOp (m : Master) (e : Byte) :
    outsideAlarms (alarmDisarmOp m e s).1 = outsideAlarms s := by
  unfold alarmDisarmOp
  repeat' split
  all_goals rfl

/-! ### Calendar -/

@[simp] theorem outsideCalendar_postGame : outsideCalendar (postGame k d s) = outsideCalendar s := by
  unfold postGame; split <;> rfl

@[simp] theorem outsideCalendar_turnDay : outsideCalendar (turnDay s).1 = outsideCalendar s := by
  have posted (t : State) : outsideCalendar (postBoth .dayTurn 0 t) = outsideCalendar t := by
    unfold postBoth postSystem postGame
    repeat' split
    all_goals rfl
  rcases turnDay_cases s with ⟨-, e⟩ | ⟨-, -, e⟩ | ⟨-, -, e⟩ <;> rw [e]
  · rfl
  · exact posted _

@[simp] theorem outsideCalendar_applyTurns (n : Nat) (r : State × Nat) :
    outsideCalendar (applyTurns n r).1 = outsideCalendar r.1 := by
  induction n generalizing r with
  | zero => rfl
  | succ n ih => exact (ih _).trans (outsideCalendar_turnDay r.1)

@[simp] theorem outsideCalendar_fireAll (es : List (Fin 8)) : outsideCalendar (fireAll es s) = outsideCalendar s := by
  rw [fireAll_eq]; rfl

@[simp] theorem outsideCalendar_firstSetting (t : DateTime) : outsideCalendar (firstSetting t s) = outsideCalendar s :=
  (outsideCalendar_fireAll _ _).trans (outsideCalendar_postGame _ _ _)

@[simp] theorem outsideCalendar_backwardSetting (t : DateTime) : outsideCalendar (backwardSetting t s) = outsideCalendar s :=
  outsideCalendar_postGame _ _ _

@[simp] theorem outsideCalendar_sameSetting : outsideCalendar (sameSetting s) = outsideCalendar s :=
  outsideCalendar_postGame _ _ _

@[simp] theorem outsideCalendar_forwardSetting (t : DateTime) : outsideCalendar (forwardSetting t s) = outsideCalendar s := by
  have taken (r : State × Nat) : outsideCalendar (if 0 < r.2 then takeGameDay r.1 else r.1) = outsideCalendar r.1 := by
    split
    · exact outsideCalendar_fireAll _ _
    · rfl
  refine (outsideCalendar_fireAll _ _).trans ((outsideCalendar_postGame _ _ _).trans ?_)
  exact (taken _).trans (outsideCalendar_applyTurns _ _)

@[simp] theorem outsideCalendar_clockSetOp (y mo dd h mi sec : Byte) :
    outsideCalendar (clockSetOp y mo dd h mi sec s).1 = outsideCalendar s := by
  unfold clockSetOp
  dsimp only [refuse]
  repeat' split
  all_goals simp

/-- A second arrival writes what a setting does, and begins a second of the crystal's count. -/
theorem outsideCalendar_secondArrivalOp :
    { outsideCalendar (secondArrivalOp s) with crystal := 0 } = { outsideCalendar s with crystal := 0 } := by
  have seconds (t : State) : outsideCalendar (takeSecond t) = outsideCalendar t := outsideCalendar_fireAll _ _
  have turned (t : State) : outsideCalendar (arrivalTurn t) = outsideCalendar t := by
    unfold arrivalTurn
    dsimp only
    repeat' split
    · exact (outsideCalendar_fireAll _ _).trans (outsideCalendar_turnDay t)
    · exact outsideCalendar_turnDay t
    · rfl
  unfold secondArrivalOp calendarSecond
  split
  · rfl
  · rw [seconds]
    split
    · rfl
    · exact congrArg (fun t : State => { t with crystal := 0 })
        ((outsideCalendar_fireAll _ _).trans (turned { s with crystal := 0, clock := s.clock.advance }))

/-! ### Requests of the supply -/

@[simp] theorem outsideSupply_postGame : outsideSupply (postGame k d s) = outsideSupply s := by
  unfold postGame; split <;> rfl

@[simp] theorem outsideSupply_batteryOp (b : Byte) : outsideSupply (batteryOp b s).1 = outsideSupply s := by
  have formed (c : BatteryState) : outsideSupply (formLevel { s with battery := c }) = outsideSupply s := rfl
  unfold batteryOp changeBattery
  dsimp only [refuse]
  repeat' split
  · rfl
  · rfl
  all_goals simp [formed]

@[simp] theorem outsideSupply_powerModeOp (m : Byte) : outsideSupply (powerModeOp m s).1 = outsideSupply s := by
  have asleep : outsideSupply (enterSleep s) = outsideSupply s := by
    unfold enterSleep pauseStream
    split <;> rfl
  have awake : outsideSupply (enterActive s) = outsideSupply s := by
    unfold enterActive resumeStream
    split <;> rfl
  unfold powerModeOp
  repeat' split
  · rfl
  · exact asleep
  · rfl
  · exact awake
  · rfl

@[simp] theorem outsideSupply_silenceOp : outsideSupply (silenceOp s).1 = outsideSupply s := rfl

/-- No request of the side link takes the main supply away (R186). -/
theorem powerModeOp_on (m : Byte) : (powerModeOp m s).1.power = .off ↔ s.power = .off := by
  have asleep : (enterSleep s).power = .sleep := by
    unfold enterSleep pauseStream
    split <;> rfl
  have awake : (enterActive s).power = .active := by
    unfold enterActive resumeStream
    split <;> rfl
  unfold powerModeOp
  repeat' split
  · rfl
  · next h => rw [asleep, h]; decide
  · rfl
  · next h => rw [awake, h]; decide
  · rfl

/-! ### Main bus port -/

@[simp] theorem outsideBus_noteRefusal (o : OutcomeCode) : outsideBus (noteRefusal o s) = outsideBus s :=
  outsideBus_postGame _ _ _

@[simp] theorem outsideBus_refuseAccess (o : OutcomeCode) : outsideBus (refuseAccess o s) = outsideBus s :=
  outsideBus_noteRefusal s o

@[simp] theorem outsideBus_refuseRead (o : OutcomeCode) : outsideBus (refuseRead o s) = outsideBus s :=
  outsideBus_noteRefusal _ o

@[simp] theorem outsideBus_report (r : Bool) (code : Byte) (x : Result) :
    outsideBus (report r code x) = outsideBus x.1 := by
  have outcome : outsideBus (if r then { x.1 with port.outcome := x.2 } else x.1) = outsideBus x.1 := by
    split <;> rfl
  simp only [report]
  split
  · exact (outsideBus_noteRefusal _ _).trans outcome
  · split
    · exact (outsideBus_postGame _ _ _).trans outcome
    · exact outcome

@[simp] theorem outsideBus_abandonCommand : outsideBus (abandonCommand s) = outsideBus s := by
  unfold abandonCommand
  split
  · rfl
  · exact outsideBus_report _ _ _

@[simp] theorem outsideBus_withPort (p : PortRecord) : outsideBus { s with port := p } = outsideBus s := rfl

@[simp] theorem outsideBus_selectOp (t x : Byte) (a : Half) : outsideBus (selectOp t x a s).1 = outsideBus s := by
  simp only [selectOp, selectStage, selectSlot, selectInfo, refuse]
  repeat' split
  all_goals rfl

@[simp] theorem outsideBus_entryOp (x : Byte) : outsideBus (entryOp x s).1 = outsideBus s := by
  unfold entryOp; split <;> rfl

@[simp] theorem outsideBus_statusClearOp : outsideBus (statusClearOp s).1 = outsideBus s := rfl

@[simp] theorem outsideBus_latchRead (n : Nat) (l : Nat → Byte) : outsideBus (latchRead n l s) = outsideBus s := rfl

@[simp] theorem outsideBus_targetRead : outsideBus (targetRead s) = outsideBus s := by
  unfold targetRead stageRead slotPortRead
  repeat' split
  · rfl
  all_goals simp

@[simp] theorem outsideBus_dataPortRead : outsideBus (dataPortRead s) = outsideBus s := by
  unfold dataPortRead; split <;> simp

@[simp] theorem outsideBus_eventAckOp : outsideBus (eventAckOp .game s).1 = outsideBus s := rfl
@[simp] theorem outsideBus_eventAckLostOp : outsideBus (eventAckLostOp .game s).1 = outsideBus s := rfl
@[simp] theorem outsideBus_eventMaskOp (a b c : Byte) : outsideBus (eventMaskOp .game a b c s).1 = outsideBus s := rfl

@[simp] theorem outsideBus_lineEnableOp (e : Byte) : outsideBus (lineEnableOp .game e s).1 = outsideBus s := by
  unfold lineEnableOp; split <;> rfl

/-! ### Side link -/

@[simp] theorem outsideLink_assertSelect : outsideLink (assertSelect s) = outsideLink s := by
  unfold assertSelect; split <;> rfl

@[simp] theorem outsideLink_releaseSelect : outsideLink (releaseSelect s) = outsideLink s := rfl

@[simp] theorem outsideLink_readOut : outsideLink (readOut s) = outsideLink s := by
  unfold readOut; split <;> rfl

@[simp] theorem outsideLink_withSide (l : SideLink) : outsideLink { s with side := l } = outsideLink s := rfl

/-- A reply adds to frame and system queue alone (R179, R180). -/
@[simp] theorem outsideLink_takeLink (op : State → LinkResult) :
    outsideLink (takeLink op s) = outsideLink (op s).1 := by
  simp only [takeLink]
  split
  · exact outsideLink_postSystem _ _ _
  · rfl

@[simp] theorem outsideLink_slotReadOp (n : Byte) (o : Half) (c : Byte) :
    outsideLink (slotReadOp n o c s).1 = outsideLink s := by
  simp only [slotReadOp]
  repeat' split
  all_goals rfl

@[simp] theorem outsideLink_readRecordOp (r x : Byte) : outsideLink (readRecordOp r x s).1 = outsideLink s := by
  unfold readRecordOp
  repeat' split
  all_goals rfl

@[simp] theorem outsideLink_eventAckOp : outsideLink (eventAckOp .system s).1 = outsideLink s := rfl
@[simp] theorem outsideLink_eventAckLostOp : outsideLink (eventAckLostOp .system s).1 = outsideLink s := rfl
@[simp] theorem outsideLink_eventMaskOp (a b c : Byte) : outsideLink (eventMaskOp .system a b c s).1 = outsideLink s := rfl

@[simp] theorem outsideLink_lineEnableOp (e : Byte) : outsideLink (lineEnableOp .system e s).1 = outsideLink s := by
  unfold lineEnableOp; split <;> rfl

end
end Sys2Proof.Machine
end

section
/-! Day numbers and dates as each other's inverse (R47, R48), the next date and second (R50, R51), and the turn instants
between two times counted (R56). -/

namespace Sys2Proof.Machine

open Sys2Proof.Safety

/-! ### Dates and day numbers -/

theorem Date.valid_iff (d : Date) : d.valid = true ↔
    d.year ≤ 99 ∧ 1 ≤ d.month ∧ d.month ≤ 12 ∧ 1 ≤ d.day ∧ d.day ≤ monthLength d.year d.month := decide_eq_true_iff

theorem DateTime.valid_iff (t : DateTime) : t.valid = true ↔
    t.date.valid = true ∧ t.hour ≤ 23 ∧ t.minute ≤ 59 ∧ t.second ≤ 59 := by
  rw [DateTime.valid, Bool.and_eq_true, decide_eq_true_iff]

/-- The days of an existing date lie in its year, and in its month. -/
theorem day_within {d : Date} (h : d.valid = true) :
    dayNumber d < daysBeforeYear (d.year + 1)
      ∧ daysBeforeMonth d.year d.month + (d.day - 1) < daysBeforeMonth d.year (d.month + 1) := by
  obtain ⟨-, -, hm, hd1, hdlen⟩ := d.valid_iff.1 h
  have month := daysBeforeMonth_succ d.year d.month
  have rest := daysBeforeMonth_mono d.year (show d.month + 1 ≤ 13 by omega)
  have year := daysBeforeMonth_year d.year
  unfold dayNumber
  omega

/-- Of two existing dates of one day number neither is in an earlier year or month. -/
theorem year_month_le {d e : Date} (_hd : d.valid = true) (he : e.valid = true) (h : dayNumber d = dayNumber e) :
    d.year ≤ e.year ∧ (d.year = e.year → d.month ≤ e.month) := by
  obtain ⟨-, monthOfE⟩ := day_within he
  obtain ⟨yearOfE, -⟩ := day_within he
  refine ⟨Nat.le_of_not_lt fun hlt => ?_, fun hy => Nat.le_of_not_lt fun hlt => ?_⟩
  · unfold dayNumber daysBeforeYear at *
    omega
  · have later := daysBeforeMonth_mono e.year (show e.month + 1 ≤ d.month from hlt)
    unfold dayNumber at h
    rw [hy] at h
    omega

theorem dayNumber_inj {d e : Date} (hd : d.valid = true) (he : e.valid = true) (h : dayNumber d = dayNumber e) : d = e := by
  obtain ⟨hy, hm⟩ := year_month_le hd he h
  obtain ⟨hy', hm'⟩ := year_month_le he hd h.symm
  obtain ⟨-, -, -, hd1, -⟩ := d.valid_iff.1 hd
  obtain ⟨-, -, -, he1, -⟩ := e.valid_iff.1 he
  have year := Nat.le_antisymm hy hy'
  have month := Nat.le_antisymm (hm year) (hm' year.symm)
  have day : d.day = e.day := by
    unfold dayNumber at h
    rw [year, month] at h
    omega
  cases d; cases e
  exact Date.mk.injEq .. ▸ ⟨year, month, day⟩

theorem dateOfDay_dayNumber {d : Date} (h : d.valid = true) : dateOfDay (dayNumber d) = d := by
  obtain ⟨hvalid, hnumber⟩ := dateOfDay_spec (dayNumber_lt h)
  exact dayNumber_inj hvalid h hnumber

/-! ### The next date and the next second -/

theorem monthLength_pos (y : Nat) {m : Nat} (h1 : 1 ≤ m) (h12 : m ≤ 12) : 1 ≤ monthLength y m := by
  interval_cases m <;> simp [monthLength]
  split <;> decide

/-- Before the end of 2099 the next date is the date of the next day number. -/
theorem nextDate_of_inside {d : Date} (h : d.valid = true)
    (hlast : d.day < monthLength d.year d.month ∨ d.month < 12 ∨ d.year < 99) :
    (nextDate d).valid = true ∧ dayNumber (nextDate d) = dayNumber d + 1 := by
  obtain ⟨hy, hm1, hm12, hd1, hdlen⟩ := d.valid_iff.1 h
  unfold nextDate
  split
  · next hday =>
    refine ⟨(Date.valid_iff _).2 ⟨hy, hm1, hm12, Nat.le_add_left 1 _, hday⟩, ?_⟩
    show daysBeforeYear d.year + daysBeforeMonth d.year d.month + (d.day + 1 - 1) = _ + _ + (d.day - 1) + 1
    omega
  · next hday =>
    split
    · next hmonth =>
      have month := daysBeforeMonth_succ d.year d.month
      refine ⟨(Date.valid_iff _).2
        ⟨hy, Nat.le_add_left 1 _, hmonth, Nat.le_refl 1, monthLength_pos _ (Nat.le_add_left 1 _) hmonth⟩, ?_⟩
      show daysBeforeYear d.year + daysBeforeMonth d.year (d.month + 1) + (1 - 1) = _ + _ + (d.day - 1) + 1
      omega
    · next hmonth =>
      obtain ⟨y, m, day⟩ := d
      dsimp only at *
      obtain rfl : m = 12 := by omega
      have december : daysBeforeMonth y 13 = daysBeforeMonth y 12 + monthLength y 12 := daysBeforeMonth_succ y 12
      have year := daysBeforeMonth_year y
      rw [if_pos (by omega)]
      refine ⟨(Date.valid_iff _).2 ⟨by dsimp only; omega, Nat.le_refl 1, Nat.le_add_left 1 11, Nat.le_refl 1,
        monthLength_pos _ (Nat.le_refl 1) (Nat.le_add_left 1 11)⟩, ?_⟩
      show daysBeforeYear (y + 1) + 0 + (1 - 1) = daysBeforeYear y + daysBeforeMonth y 12 + (day - 1) + 1
      omega

/-- The next date exists, and its number is the next, across the wrap (R51). -/
theorem nextDate_spec {d : Date} (h : d.valid = true) :
    (nextDate d).valid = true ∧ dayNumber (nextDate d) = (dayNumber d + 1) % 36525 := by
  by_cases hlast : d.day < monthLength d.year d.month ∨ d.month < 12 ∨ d.year < 99
  · obtain ⟨hvalid, hnumber⟩ := nextDate_of_inside h hlast
    have inRange := dayNumber_lt hvalid
    rw [hnumber] at inRange
    exact ⟨hvalid, by rw [hnumber, Nat.mod_eq_of_lt inRange]⟩
  · obtain ⟨hy, hm1, hm12, hd1, hdlen⟩ := d.valid_iff.1 h
    have wrapped : d = { year := 99, month := 12, day := 31 } := by
      obtain ⟨y, m, day⟩ := d
      obtain rfl : y = 99 := by dsimp only at *; omega
      obtain rfl : m = 12 := by dsimp only at *; omega
      have len : monthLength 99 12 = 31 := rfl
      obtain rfl : day = 31 := by dsimp only at *; omega
      rfl
    rw [wrapped]
    exact ⟨rfl, rfl⟩

theorem nextSecond_of_sameDay {t : DateTime} (h : t.second < 59 ∨ t.minute < 59 ∨ t.hour < 23) (ht : t.valid = true) :
    (nextSecond t).date = t.date ∧ (nextSecond t).valid = true
      ∧ secondOfDay (nextSecond t) = secondOfDay t + 1 := by
  obtain ⟨hd, hh, hm, hs⟩ := t.valid_iff.1 ht
  unfold nextSecond secondOfDay
  split
  · exact ⟨rfl, (DateTime.valid_iff _).2 ⟨hd, hh, hm, by dsimp only; omega⟩, by dsimp only; omega⟩
  · split
    · exact ⟨rfl, (DateTime.valid_iff _).2 ⟨hd, hh, by dsimp only; omega, Nat.zero_le _⟩, by dsimp only; omega⟩
    · rw [if_pos (by omega)]
      exact ⟨rfl, (DateTime.valid_iff _).2 ⟨hd, by dsimp only; omega, Nat.zero_le _, Nat.zero_le _⟩, by dsimp only; omega⟩

/-- One second later: an existing time, the next instant, across the wrap (R50, R51). -/
theorem nextSecond_spec {t : DateTime} (ht : t.valid = true) :
    (nextSecond t).valid = true ∧ instant (nextSecond t) = (instant t + 1) % 3155760000 := by
  have inRange := dayNumber_now_lt ht
  have inDay := secondOfDay_lt ht
  by_cases h : t.second < 59 ∨ t.minute < 59 ∨ t.hour < 23
  · obtain ⟨hdate, hvalid, hsecond⟩ := nextSecond_of_sameDay h ht
    have inDay' := secondOfDay_lt hvalid
    refine ⟨hvalid, ?_⟩
    rw [instant, instant, hdate, hsecond]
    omega
  · obtain ⟨hd, hh, hm, hs⟩ := t.valid_iff.1 ht
    have midnight : nextSecond t = { date := nextDate t.date, hour := 0, minute := 0, second := 0 } := by
      rw [nextSecond, if_neg (by omega), if_neg (by omega), if_neg (by omega)]
    obtain ⟨hvalid, hnumber⟩ := nextDate_spec hd
    rw [midnight]
    refine ⟨(DateTime.valid_iff _).2 ⟨hvalid, Nat.zero_le _, Nat.zero_le _, Nat.zero_le _⟩, ?_⟩
    have last : secondOfDay t = 86399 := by unfold secondOfDay; omega
    have first (d : Date) : secondOfDay { date := d, hour := 0, minute := 0, second := 0 } = 0 := by
      simp [secondOfDay]
    rw [instant, instant, last, first, hnumber]
    omega

theorem instant_lt {t : DateTime} (ht : t.valid = true) : instant t < 3155760000 := by
  have := dayNumber_now_lt ht
  have := secondOfDay_lt ht
  unfold instant
  omega

/-! ### Turn instants -/

theorem turnInstants_self (start t : Nat) : turnInstants start t t = 0 := by
  simp [turnInstants]

/-- One second more passes a turn instant exactly when its time of day is the day start. -/
theorem turnInstants_succ {start t0 t1 : Nat} (hs : start < 86400) (h : t0 ≤ t1) :
    turnInstants start t0 (t1 + 1) = turnInstants start t0 t1 + if (t1 + 1) % 86400 = start then 1 else 0 := by
  unfold turnInstants
  split <;> omega

theorem turnInstants_eq_count {start t0 t1 : Nat} (hs : start < 86400) (h : t0 ≤ t1) :
    turnInstants start t0 t1 = ((List.range (t1 + 1)).filter fun x => decide (t0 < x ∧ x % 86400 = start)).length := by
  induction t1, h using Nat.le_induction with
  | base =>
    have none : (List.range (t0 + 1)).filter (fun x => decide (t0 < x ∧ x % 86400 = start)) = [] :=
      List.filter_eq_nil_iff.2 fun x hx => by have := List.mem_range.1 hx; simp; omega
    rw [none, turnInstants_self, List.length_nil]
  | succ t1 h ih =>
    rw [turnInstants_succ hs h, ih, List.range_succ (n := t1 + 1), List.filter_append, List.length_append]
    have later : t0 < t1 + 1 := by omega
    by_cases hx : (t1 + 1) % 86400 = start <;> simp [hx, later]

/-- No setting within the range passes more turn instants than the range has days. -/
theorem turnInstants_le (start t0 : Nat) {t1 : Nat} (h1 : t1 < 3155760000) :
    turnInstants start t0 t1 ≤ 36525 := by
  unfold turnInstants
  omega

end Sys2Proof.Machine

open Sys2Proof Sys2Proof.Machine Sys2Proof.Safety

/-- Settles O32: a day number is its date's, a date its day number's; the turn instants by the seconds that pass. -/
theorem calendarArithmetic : Obligations.CalendarArithmetic :=
  ⟨⟨fun _ h => ⟨dayNumber_lt h, dateOfDay_dayNumber h, nextDate_spec h⟩, fun _ h => dateOfDay_spec h⟩,
    fun _ _ _ hs h => turnInstants_eq_count hs h⟩
end

section
/-! A property of states through every command: what is to be shown of the effects of both ports and of the arrivals, so
that every command, and every step, keeps it. -/

namespace Sys2Proof.Safety

open Sys2Proof.Machine

/-! ### The main bus -/

/-- Main-bus command `i` is the one that strobe `c` may have taken in state `s`: the row's own, or the one that the byte
written completes (R170, R171). -/
def MayTake (c : Instr) (s : State) (i : Instr) : Prop :=
  match c with
  | .commandPortWrite b => decodeBus b [] = some i
  | .unknownCommand b => decodeBus b [] = some i
  | .parameterByteWrite b =>
    ∃ p, s.port.command = some p ∧ p.needed ≤ p.received.length + 1 ∧ decodeBus p.byte (p.received ++ [b]) = some i
  | .dataWrite b =>
    ∃ p, s.port.command = some p ∧ p.needed ≤ p.received.length + 1 ∧ decodeBus p.byte (p.received ++ [b]) = some i
  | _ => i = c

/-- `P` is kept by what the main bus can do: by changes of the port alone, by the effects of commands that meet `Q`, and
by data for a target. -/
structure KeptOnBus (Q : Instr → Prop) (P : State → Prop) : Prop where
  port : ∀ {s t}, outsideBus t = outsideBus s → P s → P t
  effect : ∀ i s, s.power ≠ .off → Q i → P s → P (busEffect i s).1
  write : ∀ b s, s.power ≠ .off → P s → P (targetWrite b s)

namespace KeptOnBus

variable {Q : Instr → Prop} {P : State → Prop} (h : KeptOnBus Q P) {s : State}
include h

theorem abandonCommand (hs : P s) : P (abandonCommand s) := h.port (outsideBus_abandonCommand s) hs

theorem runBus (r : Bool) (code : Byte) {i : Instr} (hi : Q i) (hs : P s) : P (runBus r code (busEffect i) s) := by
  unfold Machine.runBus
  split
  · next alive =>
    have hp := on_of_stored (stored_abandonCommand s) (power_of_busAlive alive)
    exact h.port (outsideBus_report ..) (h.effect i _ hp hi (h.abandonCommand hs))
  · exact hs

theorem takeBus {b : Byte} {ps : List Byte} (hp : s.power ≠ .off) (hQ : ∀ i, decodeBus b ps = some i → Q i) (hs : P s) :
    P (takeBus b ps s) := by
  unfold Machine.takeBus
  split
  · next i hi => exact h.port (outsideBus_report ..) (h.effect i s hp (hQ i hi) hs)
  · exact hs

theorem commandWrite {b : Byte} (hQ : ∀ i, decodeBus b [] = some i → Q i) (hs : P s) : P (commandWrite b s) := by
  have abandoned := h.abandonCommand hs
  simp only [Machine.commandWrite]
  split
  · next alive =>
    have hp := on_of_stored (stored_abandonCommand s) (power_of_busAlive alive)
    split
    · exact h.port (outsideBus_report _ _ (_, _)) abandoned
    · exact h.takeBus hp hQ abandoned
    · exact h.port (outsideBus_withPort _ _) abandoned
  · exact hs

theorem dataPortWrite {b : Byte} (hQ : ∀ p i, s.port.command = some p → p.needed ≤ p.received.length + 1 →
    decodeBus p.byte (p.received ++ [b]) = some i → Q i) (hs : P s) : P (dataPortWrite b s) := by
  simp only [Machine.dataPortWrite]
  split
  · next alive =>
    have hp := power_of_busAlive alive
    split
    · exact h.write b s hp hs
    · next p hc =>
      split
      · exact h.port (outsideBus_withPort _ _) hs
      · next hn =>
        have last : p.needed ≤ p.received.length + 1 := by
          rw [List.length_append, List.length_singleton] at hn
          exact Nat.le_of_not_lt hn
        have cleared : P { s with port := { s.port with command := none } } :=
          h.port (outsideBus_withPort _ _) hs
        exact h.takeBus hp (fun i hi => hQ p i hc last hi) cleared
  · exact hs

/-- A strobe of the main bus. -/
theorem strobe {c : Instr} {t : State} (hc : isBusStrobe c = true) (hQ : ∀ i, MayTake c s i → Q i) (hs : P s)
    (ht : exec c s = .next t) : P t := by
  have whole (hq : Q c) (hb : c.busBytes.isSome = true) : P t := by
    obtain ⟨r, code, he⟩ := exec_of_busBytes c s hb
    obtain rfl := Host.Outcome.next.inj (he.symm.trans ht)
    exact h.runBus r code hq hs
  cases c with
  | commandPortWrite b | unknownCommand b =>
    obtain rfl := Host.Outcome.next.inj ht
    exact h.commandWrite hQ hs
  | parameterByteWrite b | dataWrite b =>
    obtain rfl := Host.Outcome.next.inj ht
    exact h.dataPortWrite (fun p i hp hn hi => hQ i ⟨p, hp, hn, hi⟩) hs
  | dataRead =>
    obtain rfl := Host.Outcome.next.inj ht
    exact h.port (outsideBus_dataPortRead s) hs
  | _ => exact whole (hQ _ rfl) hc

end KeptOnBus

/-! ### The side link -/

/-- `P` is kept by what the side link can do: by changes of its frame and replies, and by the effects of requests. -/
structure KeptOnLink (P : State → Prop) : Prop where
  side : ∀ {s t}, outsideLink t = outsideLink s → P s → P t
  effect : ∀ i s, s.power ≠ .off → P s → P (linkEffect i s).1

namespace KeptOnLink

variable {P : State → Prop} (h : KeptOnLink P) {s : State}
include h

theorem takeLink (i : Instr) (hp : s.power ≠ .off) (hs : P s) : P (takeLink (linkEffect i) s) :=
  h.side (outsideLink_takeLink s _) (h.effect i s hp hs)

theorem takeFrame (bytes : List Byte) (hp : s.power ≠ .off) (hs : P s) : P (takeFrame bytes s) := by
  unfold Machine.takeFrame
  split
  · exact h.takeLink _ hp hs
  · exact h.side (outsideLink_takeLink s fun t => (t, .noSuch, [])) hs

theorem clockBit (b : Bool) (hs : P s) : P (clockBit s b) := by
  have framed (f : SideFrame) : P { s with side := { s.side with frame := f } } := h.side (outsideLink_withSide _ _) hs
  unfold Machine.clockBit receiveBytes
  split
  · exact hs
  · next hp =>
    repeat' split
    · exact hs
    · exact h.side (outsideLink_withSide _ _) hs
    · exact framed _
    · exact h.takeFrame _ hp (framed _)
    · exact framed _
    · exact h.takeFrame _ hp (framed _)

theorem clockBits (bits : List Bool) (hs : P s) : P (clockBits bits s) :=
  List.foldlRecOn bits Machine.clockBit hs fun _ ht b _ => h.clockBit b ht

theorem wholeFrame (hs : P s) : P (releaseSelect (readOut s)) :=
  h.side (outsideLink_releaseSelect _) (h.side (outsideLink_readOut s) hs)

theorem assertSelect (hs : P s) : P (assertSelect s) := h.side (outsideLink_assertSelect s) hs

theorem runLink (bytes : List Byte) (i : Instr) (hs : P s) : P (runLink bytes (linkEffect i) s) := by
  unfold Machine.runLink
  split
  · exact hs
  · next hp =>
    split
    · exact h.wholeFrame (h.takeLink i (on_of_stored (stored_assertSelect s) hp) (h.assertSelect hs))
    · exact h.takeLink i hp hs
    · exact h.clockBits _ hs

theorem receiveRequest (b : Byte) (hs : P s) : P (receiveRequest b s) := by
  unfold Machine.receiveRequest
  repeat' split
  · exact hs
  · exact h.wholeFrame (h.clockBits _ (h.assertSelect hs))
  · exact h.clockBits _ hs

/-- An arrival on the side link. -/
theorem arrival {c : Instr} {t : State} (hc : isLinkArrival c = true) (hs : P s) (ht : exec c s = .next t) : P t := by
  have whole (hl : c.linkBytes.isSome = true) : P t := by
    obtain ⟨bytes, hb⟩ := Option.isSome_iff_exists.1 hl
    obtain rfl := Host.Outcome.next.inj ((exec_of_linkBytes c s bytes hb).symm.trans ht)
    exact h.runLink bytes c hs
  cases c with
  | unknownRequest b =>
    obtain rfl := Host.Outcome.next.inj ht
    exact h.receiveRequest b hs
  | slselAssertion bits =>
    obtain rfl := Host.Outcome.next.inj ht
    exact h.clockBits bits (h.assertSelect hs)
  | _ => exact whole hc

end KeptOnLink

/-! ### Arrivals of time, supply and reset -/

/-- `P` is kept by the arrivals beside both ports, but for a rise of the main supply. -/
structure KeptByArrivals (P : State → Prop) : Prop where
  fall : ∀ s, P s → P (supplyFall s)
  reset : ∀ s, P s → P (busResetOp s)
  release : ∀ s, P s → P (resetReleaseOp s)
  loss : ∀ s, P s → P (retentionLossOp s)
  second : ∀ s, P s → P (secondArrivalOp s)
  countdown : ∀ e s, P s → P (countdownExpiryOp e s)
  frame : ∀ first s, P s → P (frameArrivalOp first s)
  voice : ∀ v s, P s → P (voiceExpiry v s)
  stream : ∀ s, P s → P (streamExpiry s)
  envelope : ∀ v s, P s → P (envelopeExpiry v s)
  walk : ∀ k s, P s → P (walkPages k s)
  driver : ∀ {s t}, s.power ≠ .off → outsideDriver t = outsideDriver s → P s → P t

/-- Without the main supply the arrivals of the Rumble Driver do nothing (R153). -/
theorem driver_of_off {s : State} (hp : s.power = .off) :
    tickOp s = s ∧ patternStepEndOp s = s ∧ restBeginOp s = s ∧ restEndOp s = s ∧ motorPeriodOp s = s := by
  have asleep : ¬s.power = .active := by rw [hp]; decide
  refine ⟨if_neg asleep, if_neg asleep, if_neg fun h => asleep h.1, ?_, if_neg fun h => h.1 hp⟩
  unfold restEndOp
  split
  · exact if_neg fun h => asleep h.1
  · rfl

/-- Every arrival beside both ports keeps a property, if a rise of the main supply and a release of SLSEL do. -/
theorem kept_of_arrival {P : State → Prop} (arrivals : KeptByArrivals P) {c : Instr} {s t : State}
    (hb : ¬isBusStrobe c = true) (hl : ¬isLinkArrival c = true) (hrise : c = .mainSupplyRise → P (supplyRise s))
    (hrelease : P (releaseSelect s)) (hs : P s) (ht : exec c s = .next t) : P t := by
  have next {u : State} (hu : exec c s = .next u) (hP : P u) : P t := Host.Outcome.next.inj (hu.symm.trans ht) ▸ hP
  have pages {u : State} (hu : exec c s = .next u) (hk : ∃ k, u = walkPages k s) : P t := by
    obtain ⟨k, rfl⟩ := hk
    exact next hu (arrivals.walk k s hs)
  have driver (op : State → State) (hu : exec c s = .next (op s)) (hv : outsideDriver (op s) = outsideDriver s)
      (still : s.power = .off → op s = s) : P t := by
    refine next hu ?_
    by_cases hp : s.power = .off
    · rw [still hp]
      exact hs
    · exact arrivals.driver hp hv hs
  cases c with
  | mainSupplyRise => exact next rfl (hrise rfl)
  | mainSupplyFall => exact next rfl (arrivals.fall s hs)
  | busReset => exact next rfl (arrivals.reset s hs)
  | resetRelease => exact next rfl (arrivals.release s hs)
  | retentionLoss => exact next rfl (arrivals.loss s hs)
  | secondArrival => exact next rfl (arrivals.second s hs)
  | countdownExpiry e => exact next rfl (arrivals.countdown e s hs)
  | frameArrival first => exact next rfl (arrivals.frame first s hs)
  | voiceStep v => exact next rfl (arrivals.voice v s hs)
  | streamStep => exact next rfl (arrivals.stream s hs)
  | envelopeMove v => exact next rfl (arrivals.envelope v s hs)
  | walkPage => exact pages rfl ⟨1, rfl⟩
  | fillWalkDone => exact pages rfl (fillWalkDoneOp_pages s)
  | checkWalkDone => exact pages rfl (checkWalkDoneOp_pages s)
  | verifyWalkDone => exact pages rfl (verifyWalkDoneOp_pages s)
  | tick => exact driver tickOp rfl (outsideDriver_tickOp s) fun hp => (driver_of_off hp).1
  | patternStepEnd => exact driver patternStepEndOp rfl (outsideDriver_patternStepEndOp s) fun hp => (driver_of_off hp).2.1
  | restBegin => exact driver restBeginOp rfl (outsideDriver_restBeginOp s) fun hp => (driver_of_off hp).2.2.1
  | restEnd => exact driver restEndOp rfl (outsideDriver_restEndOp s) fun hp => (driver_of_off hp).2.2.2.1
  | motorPeriod => exact driver motorPeriodOp rfl (outsideDriver_motorPeriodOp s) fun hp => (driver_of_off hp).2.2.2.2
  | slselRelease => exact next rfl hrelease
  | unknownRequest | slselAssertion | slotRead | readRecord => exact absurd rfl hl
  | hold i | release i | clockSet i | alarmArm i | alarmDisarm i | silence i | eventAck i | eventAckLost i | eventMask i
  | lineEnable i | battery i | powerMode i =>
    cases i
    · exact absurd rfl hb
    · exact absurd rfl hl
  | _ => exact absurd rfl hb

/-- Every command keeps a property that both ports and the arrivals keep, if a rise of the main supply does. -/
theorem kept_of_exec {Q : Instr → Prop} {P : State → Prop} (bus : KeptOnBus Q P) (link : KeptOnLink P)
    (arrivals : KeptByArrivals P) {c : Instr} {s t : State} (hQ : ∀ i, MayTake c s i → Q i)
    (hrise : c = .mainSupplyRise → P (supplyRise s)) (hs : P s) (ht : exec c s = .next t) : P t := by
  by_cases hb : isBusStrobe c = true
  · exact bus.strobe hb hQ hs ht
  · by_cases hl : isLinkArrival c = true
    · exact link.arrival hl hs ht
    · exact kept_of_arrival arrivals hb hl hrise (link.side (outsideLink_releaseSelect s) hs) hs ht

/-- Every step keeps a property that every command and an engine clock keep. -/
theorem kept_of_step {P : State → Prop} (bus : KeptOnBus (fun _ => True) P) (link : KeptOnLink P)
    (arrivals : KeptByArrivals P) (rise : ∀ s, P s → P (supplyRise s)) (clock : ∀ s, P s → P (engineClock s))
    (queue : ∀ s q, P s → P { s with pending := q }) {s t : State} (hs : P s) (ht : step s = .next t) : P t := by
  unfold step at ht
  split at ht
  · obtain rfl := Host.Outcome.next.inj ht
    exact clock s hs
  · next rest _ =>
    have hq := queue s rest hs
    exact kept_of_exec bus link arrivals (fun _ _ => trivial) (fun _ => rise _ hq) hq ht

end Sys2Proof.Safety
end

section
/-! Every step keeps clock, game day, setting record and alarm entries in their ranges (R47 to R89): the entry a fire
leaves, the Calendar's operations, and everything else by what it leaves of both blocks. -/

namespace Sys2Proof.Safety

open Sys2Proof.Machine

/-! ### The records of both blocks -/

/-- What the invariants of Calendar and Alarm Table read: their records, and whether the main supply is absent. -/
def days (s : State) : Bool × CalendarState × ClockRecord × GameDayRecord × SettingRecord × Nat
    × Vector (Option AlarmEntry) 8 :=
  (decide (s.power = .off), s.calendar, s.clock, s.gameDay, s.setting, s.crystal, s.alarms)

/-- The clock record in a calendar state (R47, R48). -/
abbrev ClockSound (c : CalendarState) (k : ClockRecord) : Prop :=
  k.now.valid = true ∧ k.weekday = weekdayOf k.now.date ∧ (c = .invalid → k = ClockRecord.initial)

/-- The ranges of the game-day record (R61). -/
abbrev GameDaySound (g : GameDayRecord) : Prop :=
  g.day ≤ 65535 ∧ g.debt ≤ 1023 ∧ g.startHour ≤ 23 ∧ g.startMinute ≤ 59 ∧ g.catchUp ≤ 255

/-- The ranges of the setting record (R60). -/
abbrev SettingSound (x : SettingRecord) : Prop :=
  x.found ≤ 36525 ∧ x.applied ≤ 255 ∧ x.applied ≤ x.found ∧ x.advanced ≤ x.applied ∧ x.debtAdded ≤ 1023

/-- An alarm entry in its ranges, in power state `p` (R73, R83). -/
abbrev EntrySound (p : PowerState) (a : AlarmEntry) : Prop :=
  dueSound a.state a.due = true ∧ a.missed ≤ 15 ∧ (p ≠ .off → a.missed = 0)

/-- Calendar and Alarm Table are sound, record by record. -/
structure DaysSound (s : State) : Prop where
  clock : ClockSound s.calendar s.clock
  gameDay : GameDaySound s.gameDay
  setting : SettingSound s.setting
  crystal : s.crystal < 32768
  alarms : ∀ e : Fin 8, ∀ a ∈ s.alarms[e], EntrySound s.power a

theorem daysSound_iff (s : State) : DaysSound s ↔ CalendarSound s ∧ AlarmsSound s := by
  constructor
  · rintro ⟨⟨valid, weekday, invalid⟩, ⟨day, debt, hour, minute, catchUp⟩, ⟨found, applied, le, advanced, added⟩, crystal,
      alarms⟩
    exact ⟨⟨valid, weekday, invalid, day, debt, hour, minute, catchUp, found, applied, le, advanced, added, crystal⟩,
      alarms⟩
  · rintro ⟨⟨valid, weekday, invalid, day, debt, hour, minute, catchUp, found, applied, le, advanced, added, crystal⟩,
      alarms⟩
    exact ⟨⟨valid, weekday, invalid⟩, ⟨day, debt, hour, minute, catchUp⟩, ⟨found, applied, le, advanced, added⟩, crystal,
      alarms⟩

theorem DaysSound.congr {s t : State} (h : days t = days s) (hs : DaysSound s) : DaysSound t := by
  simp only [days, Prod.mk.injEq, decide_eq_decide] at h
  obtain ⟨off, hcalendar, hclock, hday, hsetting, hcrystal, halarms⟩ := h
  refine ⟨?_, hday ▸ hs.gameDay, hsetting ▸ hs.setting, hcrystal ▸ hs.crystal, fun e a ha => ?_⟩
  · rw [hcalendar, hclock]
    exact hs.clock
  · rw [halarms] at ha
    obtain ⟨hdue, hmissed, hon⟩ := hs.alarms e a ha
    exact ⟨hdue, hmissed, fun hp => hon (mt off.2 hp)⟩

/-- What leaves all but the store and the queues leaves both blocks. -/
theorem DaysSound.ofStore {s t : State} (hs : DaysSound s) (h : outsideStore t = outsideStore s) : DaysSound t :=
  have h : days t = days s := (congrArg days h :)
  hs.congr h

/-! ### A fire -/

/-- The ranges of a due whatever its entry's state: a countdown may stand at 0. -/
def dueInRange (due : AlarmDue) : Bool :=
  match due with
  | .real t _ => t.valid
  | .game d every => decide (d ≤ 65535 ∧ every ≤ 255)
  | .countdown n r => decide (n ≤ 65535) && r.all fun v => decide (1 ≤ v ∧ v ≤ 65535)

theorem dueInRange_of_sound {state : AlarmState} {due : AlarmDue} (h : dueSound state due = true) :
    dueInRange due = true := by
  cases due <;> simp only [dueSound, dueInRange, Bool.and_eq_true, decide_eq_true_eq] at h ⊢
  · exact h.1
  · exact h
  · exact ⟨h.1.1, h.2⟩

theorem dueSound_reschedule {now : DateTime} {day : Nat} {due : AlarmDue} (hday : day ≤ 65535)
    (h : dueInRange due = true) :
    dueSound (reschedule now day due).1 (reschedule now day due).2 = true := by
  cases due with
  | real t r =>
    have hdaily := nextDaily_valid now h
    have hweekly := nextWeekly_valid now h
    cases r <;> simp_all [reschedule, dueSound, dueInRange]
  | game d every =>
    simp only [dueInRange, decide_eq_true_eq] at h
    have hlast := Nat.div_mul_le_self (day - d) every
    simp only [reschedule]
    repeat' split
    all_goals simp only [dueSound, decide_eq_true_eq]
    all_goals omega
  | countdown n r =>
    cases r <;> simp_all [reschedule, dueSound, dueInRange]

/-- A fire leaves an entry in its ranges. -/
theorem entrySound_fired {a : AlarmEntry} {p : PowerState} {day : Nat} (now : DateTime) (hday : day ≤ 65535)
    (hdue : dueInRange a.due = true) (hmissed : a.missed ≤ 15) (hon : p ≠ .off → a.missed = 0) :
    EntrySound p (a.fired p now day) := by
  refine ⟨dueSound_reschedule hday hdue, ?_, fun hp => ?_⟩
  · unfold AlarmEntry.fired
    dsimp only
    split
    · exact Nat.min_le_right _ _
    · exact hmissed
  · exact (if_neg hp).trans (hon hp)

section
variable {s : State}

/-- Entries that are sound, beside what a fire leaves. -/
theorem DaysSound.ofAlarms {t : State} (h : DaysSound s) (ht : outsideAlarms t = outsideAlarms s)
    (ha : ∀ e : Fin 8, ∀ a ∈ t.alarms[e], EntrySound s.power a) : DaysSound t := by
  have power : (outsideAlarms t).power = (outsideAlarms s).power := congrArg State.power ht
  have records := congrArg (fun u => (u.calendar, u.clock, u.gameDay, u.setting, u.crystal)) ht
  simp only [outsideAlarms, Prod.mk.injEq] at records
  obtain ⟨hcalendar, hclock, hday, hsetting, hcrystal⟩ := records
  exact ⟨hcalendar ▸ hclock ▸ h.clock, hday ▸ h.gameDay, hsetting ▸ h.setting, hcrystal ▸ h.crystal, power ▸ ha⟩

theorem DaysSound.fireAlarm (h : DaysSound s) (e : Fin 8) : DaysSound (fireAlarm s e) := by
  refine h.ofAlarms (outsideAlarms_fireAlarm s e) fun f a ha => ?_
  rw [fireAlarm_alarms] at ha
  split at ha
  · obtain ⟨x, hx, rfl⟩ := Option.mem_map.1 ha
    obtain ⟨hdue, hmissed, hon⟩ := h.alarms e x hx
    exact entrySound_fired _ h.gameDay.1 (dueInRange_of_sound hdue) hmissed hon
  · exact h.alarms f a ha

theorem DaysSound.fireAll (h : DaysSound s) (es : List (Fin 8)) : DaysSound (fireAll es s) :=
  List.foldlRecOn es Machine.fireAlarm h fun _ ht e _ => ht.fireAlarm e

theorem DaysSound.takeGameDay (h : DaysSound s) : DaysSound (takeGameDay s) := h.fireAll _
theorem DaysSound.takeTime (h : DaysSound s) : DaysSound (takeTime s) := h.fireAll _

end

/-! ### Countdowns -/

section
variable {s : State}

/-- A second that passes leaves an entry sound, or an ARMED countdown at 0, which fires. -/
theorem entrySound_counted {a : AlarmEntry} {p : PowerState} (h : EntrySound p a) :
    EntrySound p a.counted ∨ a.counted.state = .armed ∧ AlarmDue.countedOut a.counted.due = true
      ∧ dueInRange a.counted.due = true ∧ a.counted.missed = a.missed := by
  obtain ⟨hdue, hmissed, hon⟩ := h
  have range := dueInRange_of_sound hdue
  unfold AlarmEntry.counted
  split
  · next n r hstate hcount =>
    rw [hcount] at hdue range
    rw [hstate] at hdue
    simp only [dueInRange, dueSound, Bool.and_eq_true, decide_eq_true_eq] at hdue range
    by_cases hn : n ≤ 1
    · right
      simp only [AlarmDue.countedOut, dueInRange, Bool.and_eq_true, decide_eq_true_eq, beq_iff_eq]
      exact ⟨hstate, by omega, ⟨by omega, range.2⟩, trivial⟩
    · left
      refine ⟨?_, hmissed, hon⟩
      simp only [dueSound, hstate, Bool.and_eq_true, decide_eq_true_eq]
      exact ⟨⟨by omega, fun _ => by omega, nofun⟩, range.2⟩
  · exact .inl ⟨hdue, hmissed, hon⟩

/-- The entries after a second has been counted, before the fires. -/
def counted (s : State) : State := { s with alarms := Vector.ofFn fun e => s.alarms[e].map AlarmEntry.counted }

theorem takeSecond_eq (s : State) : takeSecond s = fireAll (dueWhere AlarmDue.countedOut (counted s)) (counted s) := rfl

theorem counted_alarms (s : State) (e : Fin 8) : (counted s).alarms[e] = s.alarms[e].map AlarmEntry.counted := by
  simp [counted]

theorem mem_dueWhere {test : AlarmDue → Bool} {e : Fin 8} {a : AlarmEntry} (he : s.alarms[e] = some a) :
    e ∈ dueWhere test s ↔ a.state = .armed ∧ test a.due = true := by
  rw [dueWhere, List.mem_filter, mem_dueList, isArmed, he]
  simp

theorem dueWhere_nodup (test : AlarmDue → Bool) (s : State) : (dueWhere test s).Nodup :=
  (dueList_nodup s).filter _

theorem DaysSound.takeSecond (h : DaysSound s) : DaysSound (takeSecond s) := by
  refine h.ofAlarms (outsideAlarms_takeSecond s) fun e a ha => ?_
  rw [takeSecond_eq, fireAll_alarms _ _ (dueWhere_nodup _ _), counted_alarms] at ha
  obtain hx | ⟨x, hx⟩ := Option.eq_none_or_eq_some s.alarms[e]
  · rw [hx] at ha
    simp at ha
  · have entry := h.alarms e x hx
    have now : (counted s).alarms[e] = some x.counted := (counted_alarms s e).trans (by rw [hx]; rfl)
    have fires := mem_dueWhere (test := AlarmDue.countedOut) now
    rw [hx] at ha
    rcases entrySound_counted entry with sound | ⟨harmed, hout, hrange, hmissed⟩
    · split at ha
      · obtain rfl := Option.some.inj ha
        exact entrySound_fired _ h.gameDay.1 (dueInRange_of_sound sound.1) sound.2.1 sound.2.2
      · obtain rfl := Option.some.inj ha
        exact sound
    · rw [if_pos (fires.2 ⟨harmed, hout⟩)] at ha
      obtain rfl := Option.some.inj ha
      obtain ⟨-, hle, hon⟩ := entry
      exact entrySound_fired _ h.gameDay.1 hrange (hmissed ▸ hle) (hmissed ▸ hon)

/-- An entry replaced by a sound one. -/
theorem DaysSound.setAlarm (h : DaysSound s) (e : Fin 8) {x : Option AlarmEntry}
    (hx : ∀ a ∈ x, EntrySound s.power a) : DaysSound (setAlarm e x s) := by
  refine h.ofAlarms (outsideAlarms_setAlarm s e x) fun f a ha => ?_
  simp only [setAlarm_alarms, Fin.getElem_fin, Vector.getElem_set] at ha
  split at ha
  · exact hx a ha
  · exact h.alarms f a ha

/-- An entry that fires as soon as it stands: in its ranges it may be a countdown at 0 (R82). -/
theorem DaysSound.fireSet (h : DaysSound s) (e : Fin 8) {x : AlarmEntry} (hdue : dueInRange x.due = true)
    (hmissed : x.missed ≤ 15) (hon : s.power ≠ .off → x.missed = 0) :
    DaysSound (Machine.fireAlarm (Machine.setAlarm e (some x) s) e) := by
  refine h.ofAlarms ((outsideAlarms_fireAlarm _ e).trans (outsideAlarms_setAlarm s e _)) fun f a ha => ?_
  rw [fireAlarm_alarms] at ha
  simp only [setAlarm_alarms, Fin.getElem_fin, Vector.getElem_set] at ha
  split at ha
  · simp only [if_true, Option.map_some] at ha
    obtain rfl := Option.some.inj ha
    exact entrySound_fired _ h.gameDay.1 hdue hmissed hon
  · next hf =>
    rw [if_neg fun he => hf (Fin.ext he.symm)] at ha
    exact h.alarms f a ha

theorem DaysSound.countdownExpiryOp (h : DaysSound s) (e : Fin 8) : DaysSound (countdownExpiryOp e s) := by
  unfold Machine.countdownExpiryOp
  repeat' split
  · exact h
  · next a ha _ _ n r hstate hdue _ =>
    obtain ⟨hsound, hmissed, hon⟩ := h.alarms e a ha
    have range := dueInRange_of_sound hsound
    have range : dueInRange (.countdown 0 r) = true := by
      rw [hdue] at range
      simp_all [dueInRange]
    exact h.fireSet e range hmissed hon
  all_goals exact h

end

/-! ### Turns and second arrivals -/

section
variable {s : State}

theorem DaysSound.turnDay (h : DaysSound s) : DaysSound (turnDay s).1 := by
  obtain ⟨hday, hdebt, rest⟩ := h.gameDay
  rcases turnDay_cases s with ⟨-, e⟩ | ⟨-, hg, e⟩ | ⟨-, -, e⟩ <;> rw [e]
  · exact ⟨h.clock, ⟨hday, Nat.le_trans (Nat.sub_le _ _) hdebt, rest⟩, h.setting, h.crystal, h.alarms⟩
  · have turned : DaysSound { s with gameDay := { s.gameDay with day := s.gameDay.day + 1 } } :=
      ⟨h.clock, ⟨hg, hdebt, rest⟩, h.setting, h.crystal, h.alarms⟩
    exact turned.ofStore (outsideStore_postBoth ..)
  · exact h

theorem DaysSound.applyTurns (n k : Nat) (h : DaysSound s) : DaysSound (applyTurns n (s, k)).1 := by
  induction n generalizing s k with
  | zero => exact h
  | succ n ih => exact ih _ h.turnDay

/-- One second later the weekday is still that of the date (R50). -/
theorem clockSound_advance {c : ClockRecord} (hc : ClockSound .running c) : ClockSound .running c.advance := by
  obtain ⟨hvalid, hweekday, -⟩ := hc
  refine ⟨(nextSecond_spec hvalid).1, ?_, nofun⟩
  unfold ClockRecord.advance
  dsimp only
  split
  · next same => rw [same, hweekday]
  · rfl

theorem DaysSound.arrivalTurn (h : DaysSound s) : DaysSound (arrivalTurn s) := by
  unfold Machine.arrivalTurn
  dsimp only
  repeat' split
  · exact h.turnDay.fireAll _
  · exact h.turnDay
  · exact h

theorem DaysSound.secondArrivalOp (h : DaysSound s) : DaysSound (secondArrivalOp s) := by
  have started : DaysSound { s with crystal := 0 } := ⟨h.clock, h.gameDay, h.setting, Nat.zero_lt_succ _, h.alarms⟩
  unfold Machine.secondArrivalOp calendarSecond
  split
  · exact h
  · split
    · exact started.takeSecond
    · next hc =>
      have clock := h.clock
      rw [show s.calendar = .running from hc] at clock
      have advanced : DaysSound { s with crystal := 0, clock := s.clock.advance } :=
        ⟨(show s.calendar = .running from hc) ▸ clockSound_advance clock, h.gameDay, h.setting, Nat.zero_lt_succ _, h.alarms⟩
      exact (advanced.arrivalTurn.fireAll _).takeSecond

end

/-! ### Settings of the clock -/

section
variable {s : State}

/-- Another clock record and setting record, and a game-day record as sound as the old one. -/
theorem DaysSound.set (h : DaysSound s) {c : CalendarState} {k : ClockRecord} {g : GameDayRecord} {x : SettingRecord}
    (hk : ClockSound c k) (hg : GameDaySound g) (hx : SettingSound x) :
    DaysSound { s with calendar := c, clock := k, gameDay := g, setting := x } :=
  ⟨hk, hg, hx, h.crystal, h.alarms⟩

theorem clockSound_set {t : DateTime} (ht : t.valid = true) : ClockSound .running { now := t, weekday := weekdayOf t.date } :=
  ⟨ht, rfl, nofun⟩

theorem settingSound_zero (k : SettingKind) :
    SettingSound { kind := k, found := 0, applied := 0, advanced := 0, debtAdded := 0 } :=
  ⟨Nat.zero_le _, Nat.zero_le _, Nat.zero_le _, Nat.zero_le _, Nat.zero_le _⟩

theorem DaysSound.postGame (h : DaysSound s) (k : EventKind) (d : Byte) : DaysSound (postGame k d s) :=
  h.ofStore (outsideStore_postGame ..)

theorem DaysSound.firstSetting (h : DaysSound s) {t : DateTime} (ht : t.valid = true) : DaysSound (firstSetting t s) :=
  ((h.set (clockSound_set ht) h.gameDay (settingSound_zero .first)).postGame _ _).fireAll _

theorem DaysSound.backwardSetting (h : DaysSound s) {t : DateTime} (ht : t.valid = true) (hr : s.calendar = .running) :
    DaysSound (backwardSetting t s) := by
  have found := turnInstants_le s.gameDay.startSecond (instant t) (instant_lt h.clock.1)
  obtain ⟨hday, hdebt, rest⟩ := h.gameDay
  simp only [Machine.backwardSetting]
  refine DaysSound.postGame ?_ _ _
  refine ⟨?_, ⟨hday, Nat.min_le_right _ _, rest⟩, ?_, h.crystal, h.alarms⟩
  · exact hr ▸ clockSound_set ht
  · exact ⟨found, Nat.zero_le _, Nat.zero_le _, Nat.zero_le _, by dsimp only; omega⟩

theorem DaysSound.sameSetting (h : DaysSound s) : DaysSound (sameSetting s) :=
  (h.set h.clock h.gameDay (settingSound_zero .same)).postGame _ _

theorem DaysSound.forwardSetting (h : DaysSound s) {t : DateTime} (ht : t.valid = true) (hr : s.calendar = .running) :
    DaysSound (forwardSetting t s) := by
  have found := turnInstants_le s.gameDay.startSecond (instant s.clock.now) (instant_lt ht)
  have catchUp := h.gameDay.2.2.2.2
  have set : DaysSound (setClock t s) := h.set (c := s.calendar) (hr ▸ clockSound_set ht) h.gameDay h.setting
  have advanced := (applyTurns_gameDay (min (turnInstants s.gameDay.startSecond (instant s.clock.now) (instant t))
    s.gameDay.catchUp) (setClock t s) 0 set.gameDay.1).2
  have turned := set.applyTurns (min (turnInstants s.gameDay.startSecond (instant s.clock.now) (instant t))
    s.gameDay.catchUp) 0
  simp only [Machine.forwardSetting]
  generalize Machine.applyTurns _ (setClock t s, 0) = r at advanced turned ⊢
  have taken : DaysSound (if 0 < r.2 then Machine.takeGameDay r.1 else r.1) := by
    split
    · exact turned.fireAll _
    · exact turned
  refine DaysSound.fireAll (DaysSound.postGame (taken.set taken.clock taken.gameDay ?_) _ _) _
  simp only [SettingSound]
  simp only [setClock_gameDay] at advanced
  omega

theorem DaysSound.clockSetOp (h : DaysSound s) (y mo d hr mi sec : Byte) : DaysSound (clockSetOp y mo d hr mi sec s).1 := by
  unfold Machine.clockSetOp
  dsimp only
  split
  · exact h
  · next ht =>
    have ht := Bool.eq_true_of_not_eq_false ht
    split
    · exact h.firstSetting ht
    · next hr =>
      repeat' split
      · exact h.forwardSetting ht hr
      · exact h.backwardSetting ht hr
      · exact h.sameSetting

end

/-! ### The commands of both blocks -/

section
variable {s : State}

theorem DaysSound.withGameDay (h : DaysSound s) {g : GameDayRecord} (hg : GameDaySound g) :
    DaysSound { s with gameDay := g } := ⟨h.clock, hg, h.setting, h.crystal, h.alarms⟩

theorem DaysSound.dayStartOp (h : DaysSound s) (hour minute : Byte) : DaysSound (dayStartOp hour minute s).1 := by
  obtain ⟨hday, hdebt, -, -, hcatch⟩ := h.gameDay
  unfold Machine.dayStartOp
  split
  · exact h
  · exact h.withGameDay ⟨hday, hdebt, by dsimp only; omega, by dsimp only; omega, hcatch⟩

theorem DaysSound.catchUpLimitOp (h : DaysSound s) (limit : Half) : DaysSound (catchUpLimitOp limit s).1 := by
  obtain ⟨hday, hdebt, hhour, hminute, -⟩ := h.gameDay
  exact h.withGameDay ⟨hday, hdebt, hhour, hminute, Nat.min_le_right _ _⟩

theorem DaysSound.rebaseOp (h : DaysSound s) (day : Half) : DaysSound (rebaseOp day s).1 := by
  obtain ⟨-, -, rest⟩ := h.gameDay
  exact h.withGameDay ⟨Nat.le_of_lt_succ day.isLt, Nat.zero_le _, rest⟩

/-- The due that parameters give, once their checks have passed (R76). -/
theorem dueSound_armedDue {kind rep b1 b2 b3 b4 b5 b6 : Byte} (hkind : ¬2 < kind.toNat)
    (hreal : ¬(kind = 0x00 ∧ (dateTimeOf b1 b2 b3 b4 b5 b6).valid = false))
    (hcount : ¬(kind = 0x02 ∧ ((halfOf b1 b2).toNat = 0 ∨ rep = 0x01 ∧ (halfOf b3 b4).toNat = 0))) :
    dueSound .armed (armedDue kind rep b1 b2 b3 b4 b5 b6) = true := by
  have h12 := (halfOf b1 b2).isLt
  have h34 := (halfOf b3 b4).isLt
  have hrep := rep.isLt
  unfold armedDue
  split
  · next h0 =>
    have valid : (dateTimeOf b1 b2 b3 b4 b5 b6).valid = true := by simpa [h0] using hreal
    simp [dueSound, valid]
  · next h0 =>
    split
    · simp only [dueSound, decide_eq_true_eq]
      omega
    · next h1 =>
      have h2 : kind = 0x02 := by
        have n0 : kind.toNat ≠ 0 := fun h => h0 (BitVec.eq_of_toNat_eq h)
        have n1 : kind.toNat ≠ 1 := fun h => h1 (BitVec.eq_of_toNat_eq h)
        exact BitVec.eq_of_toNat_eq (by show kind.toNat = 2; omega)
      have seconds : (halfOf b1 b2).toNat ≠ 0 := fun h => hcount ⟨h2, .inl h⟩
      have reload : rep = 0x01 → (halfOf b3 b4).toNat ≠ 0 := fun h1 h => hcount ⟨h2, .inr ⟨h1, h⟩⟩
      simp only [dueSound, Bool.and_eq_true, decide_eq_true_eq]
      refine ⟨⟨by omega, fun _ => by omega, nofun⟩, ?_⟩
      split
      · next h => simpa using ⟨Nat.one_le_iff_ne_zero.2 (reload h), Nat.le_of_lt_succ h34⟩
      · rfl

theorem DaysSound.alarmArmOp (h : DaysSound s) (m : Master) (e kind rep action b1 b2 b3 b4 b5 b6 : Byte) :
    DaysSound (alarmArmOp m e kind rep action b1 b2 b3 b4 b5 b6 s).1 := by
  unfold Machine.alarmArmOp
  repeat' split
  any_goals exact h
  next _ i _ _ hkind _ _ hreal hcount =>
    have sound := dueSound_armedDue hkind hreal hcount
    unfold armEntry
    dsimp only
    split
    · exact h.fireSet i (dueInRange_of_sound sound) (Nat.zero_le _) fun _ => rfl
    · exact h.setAlarm i fun a ha => Option.some.inj ha ▸ ⟨sound, Nat.zero_le _, fun _ => rfl⟩

theorem DaysSound.alarmDisarmOp (h : DaysSound s) (m : Master) (e : Byte) : DaysSound (alarmDisarmOp m e s).1 := by
  unfold Machine.alarmDisarmOp
  repeat' split
  · exact h
  · exact h
  · exact h.setAlarm _ nofun

theorem DaysSound.frameArrivalOp (h : DaysSound s) (first : BitVec 6) : DaysSound (frameArrivalOp first s) := by
  have counted : DaysSound (countFrame s) := by
    refine ⟨h.clock, h.gameDay, h.setting, ?_, h.alarms⟩
    rw [countFrame_crystal]
    split
    · exact h.crystal
    · exact Nat.mod_lt _ (by decide)
  unfold Machine.frameArrivalOp
  split
  · exact counted
  · refine counted.congr ?_
    have sound : outsideSound (envelopeFrames first false (mixFrame (envelopeFrames first true (countFrame s))))
        = outsideSound (countFrame s) := by simp
    exact (congrArg days sound :)

/-! ### The main supply -/

theorem DaysSound.mainAtPowerUp (h : DaysSound s) {p : PowerState}
    (hp : p ≠ .off → ∀ e : Fin 8, ∀ a ∈ s.alarms[e], a.missed = 0) : DaysSound (mainAtPowerUp p s) :=
  ⟨h.clock, h.gameDay, h.setting, h.crystal, fun e a ha => ⟨(h.alarms e a ha).1, (h.alarms e a ha).2.1, fun hq => hp hq e a ha⟩⟩

theorem DaysSound.supplyFall (h : DaysSound s) : DaysSound (supplyFall s) := by
  by_cases hp : s.power = .off
  · rwa [Machine.supplyFall, if_pos hp]
  · rw [supplyFall_eq hp]
    refine DaysSound.mainAtPowerUp ?_ fun hq => absurd rfl hq
    have noted : DaysSound (noteFall s) := .congr (s := s) rfl h
    have rolled := noted.ofStore (outsideStore_rollBack _ .lostPower)
    exact .congr (s := rollBack .lostPower (noteFall s)) rfl rolled

theorem DaysSound.cellReset (h : DaysSound s) : DaysSound (cellReset s) where
  clock := show ClockSound .invalid .initial by decide
  gameDay := show GameDaySound .initial by decide
  setting := settingSound_zero .none
  crystal := h.crystal
  alarms := fun e a ha => absurd ha (by simp [Machine.cellReset, freeAlarms])

theorem DaysSound.clearMissed (h : DaysSound s) (w : WakeNote) :
    DaysSound (Safety.mainAtPowerUp .active (Machine.clearMissed { s with wake := w })) := by
  refine ⟨h.clock, h.gameDay, h.setting, h.crystal, fun e a ha => ?_⟩
  have cleared : s.alarms[e].map (fun a => { a with missed := 0 }) = some a := by
    simpa [Safety.mainAtPowerUp, Machine.clearMissed] using ha
  obtain ⟨x, hx, rfl⟩ := Option.map_eq_some_iff.1 cleared
  exact ⟨(h.alarms e x hx).1, Nat.zero_le _, fun _ => rfl⟩

theorem DaysSound.supplyRise (h : DaysSound s) : DaysSound (supplyRise s) := by
  unfold Machine.supplyRise
  split
  · cases hk : s.retention
    · rw [startUp_of_kept hk]
      exact (h.clearMissed _).ofStore (outsideStore_postBoth _ _ _)
    · rw [startUp_of_lost hk]
      have reset := h.cellReset.mainAtPowerUp (p := .active) fun _ e a ha =>
        absurd ha (by simp [Machine.cellReset, freeAlarms])
      exact reset.ofStore (outsideStore_postBoth _ _ _)
  · exact h

theorem busResetOp_of_off (hp : s.power = .off) : busResetOp s = { s with resetPin := true } := if_pos hp

theorem days_gameSideReset (s : State) : days (gameSideReset s) = days s := by
  have power : (gameSideReset s).power = s.power := by
    simp only [gameSideReset, resetRumble, resetMixer, resetRing, resetVoices]
  rw [days, power]
  simp only [gameSideReset, resetRumble, resetMixer, resetRing, resetVoices]
  rfl

theorem DaysSound.busResetOp (h : DaysSound s) : DaysSound (busResetOp s) := by
  have pinned : DaysSound { s with resetPin := true } := .congr (s := s) rfl h
  by_cases hp : s.power = .off
  · rwa [busResetOp_of_off hp]
  · rw [busResetOp_of_on hp]
    have records := (pinned.ofStore (outsideStore_busResetStore _)).congr (days_gameSideReset _)
    unfold grantAfterReset
    split
    · exact records.ofStore (outsideStore_grantPending _)
    · exact records

end

/-! ### Every command -/

section
variable {s : State}

theorem DaysSound.ofSound {t : State} (hs : DaysSound s) (h : outsideSound t = outsideSound s) : DaysSound t :=
  have h : days t = days s := (congrArg days h :)
  hs.congr h

theorem DaysSound.ofDriver {t : State} (hs : DaysSound s) (h : outsideDriver t = outsideDriver s) : DaysSound t :=
  have h : days t = days s := (congrArg days h :)
  hs.congr h

theorem DaysSound.ofBus {t : State} (hs : DaysSound s) (h : outsideBus t = outsideBus s) : DaysSound t :=
  have h : days t = days s := (congrArg days h :)
  hs.congr h

theorem DaysSound.ofLink {t : State} (hs : DaysSound s) (h : outsideLink t = outsideLink s) : DaysSound t :=
  have h : days t = days s := (congrArg days h :)
  hs.congr h

theorem DaysSound.busEffect (h : DaysSound s) (i : Instr) : DaysSound (busEffect i s).1 := by
  cases i with
  | select | entry | statusClear | eventAck | eventAckLost | eventMask | lineEnable => exact h.ofBus (by simp [Machine.busEffect])
  | openTxn | commit | abort | erase | verify => exact h.ofStore (by simp [Machine.busEffect])
  | dayStart r hour minute => exact h.dayStartOp hour minute
  | catchUpLimit r v => exact h.catchUpLimitOp v
  | rebase r v => exact h.rebaseOp v
  | alarmArm => exact h.alarmArmOp ..
  | alarmDisarm => exact h.alarmDisarmOp ..
  | voiceSet | voiceStart | voiceStop | voicePitch | voiceLevel | waveLayout | ringSet | ringFlush | mixSet | clipClear =>
    exact h.ofSound (by simp [Machine.busEffect])
  | rumbleDirect | rumblePattern | rumbleLink | rumbleStop | rumbleLimit => exact h.ofDriver (by simp [Machine.busEffect])
  | _ => exact h

theorem DaysSound.ofSupply {t : State} (hs : DaysSound s) (h : outsideSupply t = outsideSupply s)
    (hp : t.power = .off ↔ s.power = .off) : DaysSound t := by
  have records : (days t).2 = (days s).2 := (congrArg (fun u => (days u).2) h :)
  exact hs.congr (Prod.ext (decide_eq_decide.2 hp) records)

theorem DaysSound.linkEffect (h : DaysSound s) (i : Instr) : DaysSound (linkEffect i s).1 := by
  cases i with
  | hold | release => exact h.ofStore (by simp [Machine.linkEffect, noData])
  | slotRead | readRecord | eventAck | eventAckLost | eventMask | lineEnable =>
    exact h.ofLink (by simp [Machine.linkEffect, noData])
  | clockSet => exact h.clockSetOp ..
  | alarmArm => exact h.alarmArmOp ..
  | alarmDisarm => exact h.alarmDisarmOp ..
  | silence => exact h.ofSupply (outsideSupply_silenceOp s) (by simp [Machine.linkEffect, noData])
  | battery _ b => exact h.ofSupply (outsideSupply_batteryOp s b) (by simp [Machine.linkEffect, noData])
  | powerMode _ m => exact h.ofSupply (outsideSupply_powerModeOp s m) (powerModeOp_on s m)
  | _ => exact h

/-- Data for a target is data of the store or of the sound blocks. -/
theorem days_targetWrite (b : Byte) (s : State) : days (targetWrite b s) = days s := by
  have refused (o : OutcomeCode) : days (refuseAccess o s) = days s := (congrArg days (outsideBus_refuseAccess s o) :)
  unfold targetWrite stageWrite
  repeat' split
  any_goals exact refused _
  any_goals rfl
  exact (congrArg days (outsideSound_ringWrite s b) :)

theorem daysSound_bus : KeptOnBus (fun _ => True) DaysSound where
  port h hs := hs.ofBus h
  effect i _ _ _ hs := hs.busEffect i
  write b s _ hs := hs.congr (days_targetWrite b s)

theorem daysSound_link : KeptOnLink DaysSound where
  side h hs := hs.ofLink h
  effect i _ _ hs := hs.linkEffect i

theorem daysSound_arrivals : KeptByArrivals DaysSound where
  fall _ hs := hs.supplyFall
  reset _ hs := hs.busResetOp
  release s hs := .congr (s := s) rfl hs
  loss s hs := hs.congr (by unfold retentionLossOp; split <;> rfl)
  second _ hs := hs.secondArrivalOp
  countdown e _ hs := hs.countdownExpiryOp e
  frame first _ hs := hs.frameArrivalOp first
  voice v s hs := hs.ofSound (outsideSound_voiceExpiry s v)
  stream s hs := hs.ofSound (outsideSound_streamExpiry s)
  envelope v s hs := hs.ofSound (outsideSound_envelopeExpiry s v)
  walk k s hs := hs.ofStore (outsideStore_walkPages s k)
  driver _ h hs := hs.ofDriver h

end
end Sys2Proof.Safety

open Sys2Proof Sys2Proof.Machine Sys2Proof.Safety

/-- Settles O57: the entry a fire leaves, the turns, settings and commands of the Calendar, and what else leaves both blocks. -/
theorem calendarAndAlarmsStaySound : Obligations.CalendarAndAlarmsStaySound := by
  intro s s' hc ha hstep
  refine (daysSound_iff s').1 (kept_of_step daysSound_bus daysSound_link daysSound_arrivals (fun _ h => h.supplyRise)
    (fun s h => h.ofSound (outsideSound_engineClock s)) (fun s q h => .congr (s := s) rfl h) ?_ hstep)
  exact (daysSound_iff s).2 ⟨hc, ha⟩
end

section
/-! Commands and their bytes: a command byte is its form and its code, and the bytes of a row spell that row alone
(R170, R171, R179, R180, R183). -/

namespace Sys2Proof.Machine

open Sys2Proof.Safety

/-! ### Command bytes -/

theorem ofNat_toNat_byte (b : Byte) : BitVec.ofNat 8 b.toNat = b := by simp

section
variable {code : Byte} (r : Bool) (h : code.toNat < 128)
include h

set_option maxRecDepth 4000 in
theorem commandCode_commandByte : commandCode (commandByte r code) = code.toNat := by
  have all : ∀ r : Bool, ∀ c : Fin 128, commandCode (commandByte r (BitVec.ofNat 8 c.val)) = c.val := by decide
  simpa only [ofNat_toNat_byte] using all r ⟨code.toNat, h⟩

set_option maxRecDepth 4000 in
theorem commandReporting_commandByte : commandReporting (commandByte r code) = r := by
  have all : ∀ r : Bool, ∀ c : Fin 128, commandReporting (commandByte r (BitVec.ofNat 8 c.val)) = r := by decide
  simpa only [ofNat_toNat_byte] using all r ⟨code.toNat, h⟩

end

set_option maxRecDepth 8000 in
/-- A command byte is the form and the code it shows. -/
theorem commandByte_of_code {b code : Byte} (h : commandCode b = code.toNat) : commandByte (commandReporting b) code = b := by
  have all : ∀ n : Fin 256, commandByte (commandReporting (BitVec.ofFin n))
      (BitVec.ofNat 8 (commandCode (BitVec.ofFin n))) = BitVec.ofFin n := by decide
  have byte : BitVec.ofNat 8 (commandCode b) = code := by rw [h, ofNat_toNat_byte]
  have whole := all b.toFin
  rw [BitVec.ofFin_toFin, byte] at whole
  exact whole

/-! ### Main-bus commands -/

/-- What equal spellings say of byte and parameters. -/
theorem spelling_inj {code b : Byte} {r : Bool} {ps qs : List Byte} (hc : code.toNat < 128)
    (h : some (commandByte r code, qs) = some (b, ps)) :
    commandCode b = code.toNat ∧ commandReporting b = r ∧ ps = qs := by
  obtain ⟨rfl, rfl⟩ := Prod.mk.inj (Option.some.inj h)
  exact ⟨commandCode_commandByte r hc, commandReporting_commandByte r hc, rfl⟩

theorem decodeBus_of_busBytes {i : Instr} {b : Byte} {ps : List Byte} (h : i.busBytes = some (b, ps)) :
    decodeBus b ps = some i := by
  cases i with
  | select r t x a =>
    obtain ⟨hc, rfl, rfl⟩ := spelling_inj (by decide) h
    unfold decodeBus
    rw [hc]
    exact congrArg (fun v => some (Instr.select _ t x v)) (halfOf_hi_lo a)
  | catchUpLimit r v =>
    obtain ⟨hc, rfl, rfl⟩ := spelling_inj (by decide) h
    unfold decodeBus
    rw [hc]
    exact congrArg (fun v => some (Instr.catchUpLimit _ v)) (halfOf_hi_lo v)
  | rebase r v =>
    obtain ⟨hc, rfl, rfl⟩ := spelling_inj (by decide) h
    unfold decodeBus
    rw [hc]
    exact congrArg (fun v => some (Instr.rebase _ v)) (halfOf_hi_lo v)
  | voicePitch r v d t =>
    obtain ⟨hc, rfl, rfl⟩ := spelling_inj (by decide) h
    unfold decodeBus
    rw [hc]
    exact congrArg (fun d => some (Instr.voicePitch _ v d t)) (halfOf_hi_lo d)
  | hold m | release m | clockSet m | alarmArm m | alarmDisarm m | silence m | eventAck m | eventAckLost m | eventMask m
  | lineEnable m | battery m | powerMode m =>
    cases m
    · obtain ⟨hc, rfl, rfl⟩ := spelling_inj (by decide) h
      unfold decodeBus
      rw [hc]
      exact rfl
    · cases h
  | slotRead | readRecord | unknownCommand | unknownRequest | dataWrite | dataRead | slselRelease | mainSupplyRise
  | mainSupplyFall | busReset | resetRelease | retentionLoss | secondArrival | frameArrival | tick | voiceStep
  | streamStep | envelopeMove | countdownExpiry | walkPage | fillWalkDone | checkWalkDone | verifyWalkDone
  | patternStepEnd | restBegin | restEnd | motorPeriod | commandPortWrite | parameterByteWrite | slselAssertion => cases h
  | _ =>
    obtain ⟨hc, rfl, rfl⟩ := spelling_inj (by decide) h
    unfold decodeBus
    rw [hc]
    exact rfl

theorem busBytes_of_decodeBus {i : Instr} {b : Byte} {ps : List Byte} (h : decodeBus b ps = some i) :
    i.busBytes = some (b, ps) := by
  unfold decodeBus at h
  dsimp only at h
  have hk : commandCode b < 128 := Nat.mod_lt _ (by decide)
  generalize hc : commandCode b = k at h hk
  interval_cases k
  all_goals
    repeat' first
      | (cases h <;> simp only [Instr.busBytes, hi_halfOf, lo_halfOf] <;> rw [commandByte_of_code (by exact hc)])
      | rcases ps with _ | ⟨p, ps⟩

/-- A row has as many parameters as the command table says, and is the command its bytes give, under the form and the code
of the command byte (R170, R171, R183). -/
theorem row_of_busBytes {i : Instr} {b : Byte} {ps : List Byte} (h : i.busBytes = some (b, ps)) :
    busParameters (commandCode b) = some ps.length
      ∧ ∀ s, exec i s = .next (runBus (commandReporting b) (BitVec.ofNat 8 (commandCode b)) (busEffect i) s) := by
  cases i with
  | hold m | release m | clockSet m | alarmArm m | alarmDisarm m | silence m | eventAck m | eventAckLost m | eventMask m
  | lineEnable m | battery m | powerMode m =>
    cases m
    · obtain ⟨hc, rfl, rfl⟩ := spelling_inj (by decide) h
      rw [hc]
      exact ⟨rfl, fun _ => rfl⟩
    · cases h
  | slotRead | readRecord | unknownCommand | unknownRequest | dataWrite | dataRead | slselRelease | mainSupplyRise
  | mainSupplyFall | busReset | resetRelease | retentionLoss | secondArrival | frameArrival | tick | voiceStep
  | streamStep | envelopeMove | countdownExpiry | walkPage | fillWalkDone | checkWalkDone | verifyWalkDone
  | patternStepEnd | restBegin | restEnd | motorPeriod | commandPortWrite | parameterByteWrite | slselAssertion => cases h
  | _ =>
    obtain ⟨hc, rfl, rfl⟩ := spelling_inj (by decide) h
    rw [hc]
    exact ⟨rfl, fun _ => rfl⟩

/-! ### Requests of the side link -/

theorem decodeLink_of_linkBytes {i : Instr} {bytes : List Byte} (h : i.linkBytes = some bytes) :
    decodeLink bytes = some i := by
  cases i with
  | slotRead n o c =>
    cases h
    exact congrArg (fun v => some (Instr.slotRead n v c)) (halfOf_hi_lo o)
  | readRecord => cases h; rfl
  | hold m | release m | clockSet m | alarmArm m | alarmDisarm m | silence m | eventAck m | eventAckLost m | eventMask m
  | lineEnable m | battery m | powerMode m =>
    cases m
    · cases h
    · cases h; rfl
  | _ => cases h

/-- A request of `ps` parameters that begins with the byte its row sends. -/
theorem requestByte_eq {b code : Byte} {ps : List Byte} {x : Option (List Byte)} (hc : b.toNat = code.toNat)
    (hx : x = some (code :: ps)) : x = some (b :: ps) := by
  rw [hx, BitVec.eq_of_toNat_eq hc]

theorem linkBytes_slotRead (n oh ol c : Byte) :
    (Instr.slotRead n (halfOf oh ol) c).linkBytes = some [0x17, n, oh, ol, c] := by
  show some [0x17, n, Half.hi (halfOf oh ol), Half.lo (halfOf oh ol), c] = _
  rw [hi_halfOf, lo_halfOf]

theorem linkBytes_of_decodeLink {i : Instr} {bytes : List Byte} (h : decodeLink bytes = some i) :
    i.linkBytes = some bytes := by
  cases bytes with
  | nil => cases h
  | cons b ps =>
    unfold decodeLink at h
    dsimp only at h
    have hk := b.isLt
    generalize hc : b.toNat = k at h hk
    interval_cases k
    all_goals
      repeat' first
        | (cases h <;> exact requestByte_eq (by exact hc) rfl)
        | (cases h <;> exact requestByte_eq (by exact hc) (linkBytes_slotRead ..))
        | rcases ps with _ | ⟨p, ps⟩

theorem linkParameters_of_linkBytes {i : Instr} {b : Byte} {ps : List Byte} (h : i.linkBytes = some (b :: ps)) :
    linkParameters b.toNat = some ps.length := by
  cases i with
  | slotRead | readRecord => cases h; rfl
  | hold m | release m | clockSet m | alarmArm m | alarmDisarm m | silence m | eventAck m | eventAckLost m | eventMask m
  | lineEnable m | battery m | powerMode m =>
    cases m
    · cases h
    · cases h; rfl
  | _ => cases h

end Sys2Proof.Machine

open Sys2Proof Sys2Proof.Machine Sys2Proof.Safety

/-- Settles O4: each row's bytes, and for the other direction each code with the parameters it takes. -/
theorem commandsAndBytesAgree : Obligations.CommandsAndBytesAgree :=
  ⟨fun _ _ _ => ⟨decodeBus_of_busBytes, busBytes_of_decodeBus⟩, fun _ _ => ⟨decodeLink_of_linkBytes, linkBytes_of_decodeLink⟩,
    fun _ _ _ h => (row_of_busBytes h).1, fun _ _ _ => linkParameters_of_linkBytes⟩
end

section
/-! The main bus port byte by byte (R170 to R173): a command byte and its abandoned command, parameters that gather, the
status byte; and the commands of the port itself and of the game day. -/

namespace Sys2Proof.Safety

open Sys2Proof.Machine

section
variable {s : State}

theorem busAlive_of_on (hp : s.power ≠ .off) (hr : s.resetPin = false) : busAlive s = true := by simp [busAlive, hp, hr]

theorem abandonCommand_of_none (hc : s.port.command = none) : abandonCommand s = s := by simp [abandonCommand, hc]

/-! ### A command byte -/

theorem commandWrite_unknown {b : Byte} (h : busReady s) (hb : busParameters (commandCode b) = none) :
    commandWrite b s = reported (commandReporting b) 0x00 .noSuch s := by
  obtain ⟨hp, hr, hc⟩ := h
  rw [commandWrite, if_pos (busAlive_of_on hp hr), abandonCommand_of_none hc, hb]
  exact (report_eq _ _ _ _ hp).trans rfl

theorem commandWrite_whole {b : Byte} (h : busReady s) (hb : busParameters (commandCode b) = some 0) :
    commandWrite b s = takeBus b [] s := by
  obtain ⟨hp, hr, hc⟩ := h
  simp only [commandWrite, busAlive_of_on hp hr, if_true, abandonCommand_of_none hc, hb]

theorem commandWrite_known {b : Byte} {n : Nat} (h : busReady s) (hb : busParameters (commandCode b) = some (n + 1)) :
    commandWrite b s = { s with port.command := some { byte := b, received := [], needed := n + 1 } } := by
  obtain ⟨hp, hr, hc⟩ := h
  simp only [commandWrite, busAlive_of_on hp hr, if_true, abandonCommand_of_none hc, hb]

/-- A pending command leaves the port ready once it is abandoned. -/
theorem busReady_abandonCommand (hp : s.power ≠ .off) (hr : s.resetPin = false) : busReady (abandonCommand s) := by
  have kept := outsideBus_abandonCommand s
  have power : (outsideBus (abandonCommand s)).power = s.power := (congrArg State.power kept :)
  have pin : (outsideBus (abandonCommand s)).resetPin = s.resetPin := (congrArg State.resetPin kept :)
  refine ⟨fun h => hp (power ▸ h), pin.trans hr, ?_⟩
  cases hc : s.port.command with
  | none => rwa [abandonCommand_of_none hc]
  | some c => rw [abandonCommand_pending hc hp]; rfl

/-- A command byte discards a pending command and is then taken at a port without one (R170). -/
theorem commandWrite_abandons (b : Byte) (hp : s.power ≠ .off) (hr : s.resetPin = false) :
    commandWrite b s = commandWrite b (abandonCommand s) := by
  obtain ⟨hp', hr', hc'⟩ := busReady_abandonCommand hp hr
  rw [commandWrite, if_pos (busAlive_of_on hp hr), commandWrite, if_pos (busAlive_of_on hp' hr'),
    abandonCommand_of_none hc']

theorem runBus_abandons (r : Bool) (code : Byte) (op : State → Result) (hp : s.power ≠ .off) (hr : s.resetPin = false) :
    runBus r code op s = runBus r code op (abandonCommand s) := by
  obtain ⟨hp', hr', hc'⟩ := busReady_abandonCommand hp hr
  rw [runBus, runBus, if_pos (busAlive_of_on hp hr), if_pos (busAlive_of_on hp' hr'), abandonCommand_of_none hc']

theorem exec_abandons (i : Instr) (hp : s.power ≠ .off) (hr : s.resetPin = false) (hi : isCommandByte i = true) :
    exec i s = exec i (abandonCommand s) := by
  have whole (hb : i.busBytes.isSome = true) : exec i s = exec i (abandonCommand s) := by
    obtain ⟨⟨b, ps⟩, hb⟩ := Option.isSome_iff_exists.1 hb
    rw [(row_of_busBytes hb).2, (row_of_busBytes hb).2, runBus_abandons _ _ _ hp hr]
  cases i with
  | commandPortWrite b | unknownCommand b => exact congrArg Host.Outcome.next (commandWrite_abandons b hp hr)
  | _ => exact whole hi

/-! ### Parameters -/

/-- A port with a command pending that has received `qs` of its parameters. -/
def gathering (b : Byte) (qs : List Byte) (n : Nat) (s : State) : State :=
  { s with port.command := some { byte := b, received := qs, needed := n } }

theorem dataPortWrite_gathers {b p : Byte} {qs : List Byte} {n : Nat} (h : busReady s) (hn : qs.length + 1 < n) :
    dataPortWrite p (gathering b qs n s) = gathering b (qs ++ [p]) n s := by
  obtain ⟨hp, hr, -⟩ := h
  have alive : busAlive (gathering b qs n s) = true := busAlive_of_on hp hr
  have short : (qs ++ [p]).length < n := by rw [List.length_append, List.length_singleton]; exact hn
  rw [dataPortWrite, if_pos alive]
  exact if_pos short

theorem dataPortWrite_takes {b p : Byte} {qs : List Byte} {n : Nat} (h : busReady s) (hn : n ≤ qs.length + 1) :
    dataPortWrite p (gathering b qs n s) = takeBus b (qs ++ [p]) s := by
  obtain ⟨hp, hr, hc⟩ := h
  have alive : busAlive (gathering b qs n s) = true := busAlive_of_on hp hr
  have full : ¬(qs ++ [p]).length < n := by rw [List.length_append, List.length_singleton]; omega
  have cleared : { gathering b qs n s with port.command := none } = s := by
    simp [gathering, ← hc]
  rw [dataPortWrite, if_pos alive]
  exact (if_neg full).trans (congrArg (takeBus b (qs ++ [p])) cleared)

/-- The bytes of a row, whole, at a port without a pending command. -/
theorem takeBus_of_busBytes {i : Instr} {b : Byte} {ps : List Byte} (h : busReady s) (hi : i.busBytes = some (b, ps)) :
    exec i s = .next (takeBus b ps s) := by
  obtain ⟨hp, hr, hc⟩ := h
  rw [(row_of_busBytes hi).2, runBus, if_pos (busAlive_of_on hp hr), abandonCommand_of_none hc, takeBus,
    decodeBus_of_busBytes hi]

/-- Parameters gather one by one, and the last has the command taken (R171). -/
theorem afterAll_parameters {b : Byte} {ps : List Byte} (h : busReady s) (qs rs : List Byte) (hne : rs ≠ [])
    (hps : qs ++ rs = ps) :
    afterAll (rs.map .parameterByteWrite) (gathering b qs ps.length s) = takeBus b ps s := by
  induction rs generalizing qs with
  | nil => exact absurd rfl hne
  | cons p rs ih =>
    have length : ps.length = qs.length + (rs.length + 1) := by rw [← hps, List.length_append, List.length_cons]
    have first : afterAll ((p :: rs).map .parameterByteWrite) (gathering b qs ps.length s)
        = afterAll (rs.map .parameterByteWrite) (dataPortWrite p (gathering b qs ps.length s)) := rfl
    rw [first]
    cases rs with
    | nil =>
      rw [dataPortWrite_takes h (by rw [length]; exact Nat.le_refl _), hps]
      rfl
    | cons q rs =>
      rw [dataPortWrite_gathers h (by rw [length, List.length_cons]; omega)]
      exact ih (qs ++ [p]) (List.cons_ne_nil _ _) (by rw [List.append_assoc]; exact hps)

theorem afterAll_busBytes {i : Instr} {b : Byte} {ps : List Byte} (h : busReady s) (hi : i.busBytes = some (b, ps)) :
    exec i s = .next (afterAll (.commandPortWrite b :: ps.map .parameterByteWrite) s) := by
  have parameters := (row_of_busBytes hi).1
  have first : afterAll (.commandPortWrite b :: ps.map .parameterByteWrite) s
      = afterAll (ps.map .parameterByteWrite) (commandWrite b s) := rfl
  rw [takeBus_of_busBytes h hi, first]
  cases ps with
  | nil =>
    rw [commandWrite_whole h parameters]
    rfl
  | cons p ps =>
    rw [commandWrite_known h parameters]
    exact congrArg _ (afterAll_parameters h [] (p :: ps) (List.cons_ne_nil _ _) rfl).symm

theorem afterAll_dead (h : busAlive s = false) (cs : List Instr) (hc : ∀ c ∈ cs, isBusStrobe c = true) :
    afterAll cs s = s := by
  induction cs with
  | nil => rfl
  | cons c cs ih =>
    have lost : after c s = s := by
      rw [after, exec_busStrobe_dead h c (hc c List.mem_cons_self)]
    exact (congrArg (afterAll cs) lost).trans (ih fun d hd => hc d (List.mem_cons_of_mem _ hd))

/-! ### Reads beside a pending command -/

/-- A read of the target does not see the pending command. -/
theorem targetRead_withCommand (x : Option PendingCommand) (s : State) :
    targetRead { s with port.command := x } = { targetRead s with port.command := x } := by
  have refused (o : OutcomeCode) :
      refuseRead o { s with port.command := x } = { refuseRead o s with port.command := x } := by
    unfold refuseRead refuseAccess noteRefusal postGame
    split <;> rfl
  have held : storeHeld { s with port.command := x } = storeHeld s := rfl
  have staging : openStaging { s with port.command := x } = openStaging s := rfl
  unfold targetRead stageRead slotPortRead
  rw [held, staging]
  cases s.port.target with
  | stage =>
    cases storeHeld s
    · cases openStaging s
      · exact refused _
      · rfl
    · exact refused _
  | slot n =>
    dsimp only
    cases storeHeld s
    · cases s.slots[n]
      · exact refused _
      · rfl
    · exact refused _
  | ring => exact refused _
  | _ => rfl

theorem dataPortRead_ready (hp : s.power ≠ .off) (hr : s.resetPin = false) : dataPortRead s = targetRead s :=
  if_pos (busAlive_of_on hp hr)

end

/-! ### Results of the port's own commands and of the game-day commands -/

theorem entryOp_eq (d : Byte) (s : State) :
    entryOp d s = ({ s with port := { s.port with
      descending := if d.toNat ≤ 1 then decide (d = 0x01) else s.port.descending } },
      if d.toNat ≤ 1 then .ok else .range) := by
  rw [entryOp, flagOf_eq]
  by_cases h : d.toNat ≤ 1
  · simp only [if_pos h]
  · simp only [if_neg h]
    rfl

theorem dayStartOp_eq (hour minute : Byte) (s : State) :
    dayStartOp hour minute s = if hour.toNat ≤ 23 ∧ minute.toNat ≤ 59 then
        ({ s with gameDay := { s.gameDay with startHour := hour.toNat, startMinute := minute.toNat } }, .ok)
      else (s, .range) := by
  unfold dayStartOp
  by_cases h : hour.toNat ≤ 23 ∧ minute.toNat ≤ 59
  · rw [if_pos h, if_neg (by omega)]
  · rw [if_neg h, if_pos (by omega)]
    rfl

theorem catchUpLimitOp_eq (v : Half) (s : State) :
    catchUpLimitOp v s = ({ s with gameDay := { s.gameDay with catchUp := min v.toNat 255 } },
      if v.toNat ≤ 255 then .ok else .clamped) := by
  rw [catchUpLimitOp, clamped_above_eq]

/-- A refused request byte that no table knows (R180). -/
theorem receiveRequest_unknown {s : State} {b : Byte} (h : linkReady s) (hb : linkParameters b.toNat = none) :
    receiveRequest b s = replied .noSuch [] s := by
  obtain ⟨hp, hf⟩ := h
  have undecoded : decodeLink [b] = none := by
    cases hd : decodeLink [b] with
    | none => rfl
    | some i => rw [linkParameters_of_linkBytes (linkBytes_of_decodeLink hd)] at hb; cases hb
  rw [receiveRequest, if_neg hp, hf]
  dsimp only
  rw [clockIn_receiving hp hf b, receiveBytes]
  dsimp only [List.nil_append, List.headD_cons]
  rw [hb, takeFrame, undecoded]
  exact takeLink_eq (s := { s with side.frame := .receiving [] [] }) (fun t => (t, .noSuch, [])) hp

/-! ### The status byte -/

theorem storeHeld_eq (s : State) : storeHeld s = decide (s.hold = .held .keep ∨ s.hold = .held .drop) := by
  unfold storeHeld
  cases s.hold with
  | held m => cases m <;> rfl
  | _ => rfl

/-- Four flags and an outcome code in one byte keep out of each other's bits (R173). -/
theorem flagsAndCode_bits (w h a m : Bool) (o : OutcomeCode) :
    let b := (if w then 0x80#8 else 0#8) ||| (if h then 0x40#8 else 0#8) ||| (if a then 0x20#8 else 0#8)
      ||| (if m then 0x10#8 else 0#8) ||| o.code
    b.getLsbD 7 = w ∧ b.getLsbD 6 = h ∧ b.getLsbD 5 = a ∧ b.getLsbD 4 = m
      ∧ b.extractLsb' 0 4 = o.code.extractLsb' 0 4 := by
  cases o <;> revert w h a m <;> decide

end Sys2Proof.Safety

open Sys2Proof Sys2Proof.Machine Sys2Proof.Safety

/-- Settles O5: the command byte, then the parameters as they gather; at a dead port every byte is lost. -/
theorem busCommandIsItsBytes : Obligations.BusCommandIsItsBytes := by
  intro i b ps s hi
  by_cases dead : busAlive s = false
  · have lost : afterAll (.commandPortWrite b :: ps.map .parameterByteWrite) s = s := by
      refine afterAll_dead dead _ fun c hc => ?_
      rcases List.mem_cons.1 hc with rfl | hc
      · rfl
      · obtain ⟨p, -, rfl⟩ := List.mem_map.1 hc
        rfl
    rw [(row_of_busBytes hi).2, runBus_dead _ _ _ dead, lost]
  · have alive : s.power ≠ .off ∧ s.resetPin = false := by simpa [busAlive] using dead
    obtain ⟨hp, hr⟩ := alive
    have first : after (.commandPortWrite b) s = after (.commandPortWrite b) (abandonCommand s) :=
      commandWrite_abandons b hp hr
    rw [(row_of_busBytes hi).2, runBus_abandons _ _ _ hp hr, ← (row_of_busBytes hi).2,
      afterAll_busBytes (busReady_abandonCommand hp hr) hi]
    exact congrArg (fun t => Host.Outcome.next (afterAll (ps.map .parameterByteWrite) t)) first.symm

/-- Settles O8: a pending command is abandoned before anything else. -/
theorem newCommandAbandonsPending : Obligations.NewCommandAbandonsPending := by
  intro i s hp hr c hc hi
  rw [exec_abandons i hp hr hi, abandonCommand_pending hc hp]

/-- Settles O10: the privileged rows, the unknown request and the unknown code. -/
theorem codesOfTheOtherMaster : Obligations.CodesOfTheOtherMaster := by
  refine ⟨fun r b1 b2 b3 b4 b5 b6 s hs => ?_, fun b s hb hs => ?_, fun b s hb hs => ?_⟩
  · have refused (code : Byte) := next_runBus (op := privileged) r code hs rfl rfl
    exact ⟨refused 0x15, refused 0x16, refused 0x20, refused 0x3A, refused 0x60, refused 0x61⟩
  · exact congrArg _ (receiveRequest_unknown hs hb)
  · exact congrArg _ (commandWrite_unknown hs hb)

/-- Settles O11: the parameters gather at a port that is otherwise ready. -/
theorem parametersGatherAndTake : Obligations.ParametersGatherAndTake := by
  refine ⟨fun b s hs n hb hn => ?_, fun p s hp hr c hc hn => ⟨?_, rfl⟩,
    fun i b ps s hi hps hs => ?_, fun c s hs t ht => ?_⟩
  · obtain ⟨m, rfl⟩ := Nat.exists_eq_add_one.2 hn
    exact congrArg _ (commandWrite_known hs hb)
  · have whole : s = gathering c.byte c.received c.needed { s with port.command := none } := by
      simp only [gathering, ← hc]
    have ready : busReady { s with port.command := none } := ⟨hp, hr, rfl⟩
    have gathered := dataPortWrite_gathers (b := c.byte) (p := p) ready hn
    rw [← whole] at gathered
    exact congrArg _ gathered
  · have last : ps.dropLast ++ [ps.getLastD 0] = ps := by
      rw [List.getLastD_eq_getLast?, List.getLast?_eq_some_getLast hps]
      exact List.dropLast_append_getLast hps
    have full : ps.length ≤ ps.dropLast.length + 1 := by rw [List.length_dropLast]; omega
    rw [takeBus_of_busBytes hs hi]
    exact congrArg _ ((dataPortWrite_takes hs full).trans (by rw [last]))
  · obtain ⟨hp, hr, -⟩ := hs
    obtain rfl := Host.Outcome.next.inj ht
    have pending : dataPortRead { s with port.command := some c } = targetRead { s with port.command := some c } :=
      dataPortRead_ready hp hr
    rw [dataPortRead_ready hp hr]
    exact congrArg _ (pending.trans (targetRead_withCommand (some c) s))

/-- Settles O13: the two commands on their bytes. -/
theorem entryAndStatusClearResults : Obligations.EntryAndStatusClearResults := by
  refine fun r d s hs => ⟨next_runBus r 0x02 hs (entryOp_power d s) (entryOp_eq d s), ?_⟩
  refine (next_runBus r 0x03 hs (statusClearOp_power s) rfl).trans ?_
  cases r <;> rfl

/-- Settles O17: each bit of the status byte by itself. -/
theorem statusByteBits : Obligations.StatusByteBits := by
  intro s
  rw [← storeHeld_eq]
  exact flagsAndCode_bits (walkInFlight s) (storeHeld s) s.gameEvents.line s.port.summary s.port.outcome

/-- Settles O30: the three commands on their operands. -/
theorem gameDayCommandResults : Obligations.GameDayCommandResults := by
  refine fun r h m v s hs => ⟨?_, next_runBus r 0x22 hs (catchUpLimitOp_power v s) (catchUpLimitOp_eq v s),
    next_runBus r 0x23 hs (rebaseOp_power v s) rfl⟩
  have taken {t : State} {o : OutcomeCode} := next_runBus (t := t) (o := o) r 0x21 hs (dayStartOp_power h m s)
  split
  · next hv => exact taken ((dayStartOp_eq h m s).trans (if_pos hv))
  · next hv => exact taken ((dayStartOp_eq h m s).trans (if_neg hv))
end

section
/-! Turns (R63, R64): what one does, and that the game day falls, and leaves 65535, at REBASE and at a cell reset alone. -/

namespace Sys2Proof.Safety

open Sys2Proof.Machine

/-! ### Posts to both queues -/

theorem postBoth_eq (k : EventKind) (d : Byte) (s : State) : postBoth k d s = { s with
    gameEvents := queueAfter s [(k, d)] s.gameEvents, systemEvents := queueAfter s [(k, d)] s.systemEvents } := by
  by_cases hp : s.power = .off
  · rw [postBoth, postGame_of_off k d hp, postSystem_of_off k d hp]
    simp only [queueAfter, if_pos hp]
  · rw [postBoth, postGame_of_on k d hp, postSystem_of_on k d (by exact hp)]
    simp only [queueAfter, if_neg hp]
    rfl

/-! ### The game day through a command -/

/-- A game day that did not fall, and stays at its last value. -/
def DayKept (a b : Nat) : Prop := a ≤ b ∧ (a = 65535 → b = 65535)

theorem DayKept.refl (a : Nat) : DayKept a a := ⟨Nat.le_refl a, id⟩

theorem DayKept.trans {a b c : Nat} (h : DayKept a b) (h' : DayKept b c) : DayKept a c :=
  ⟨Nat.le_trans h.1 h'.1, fun ha => h'.2 (h.2 ha)⟩

theorem DayKept.of_eq {a : Nat} {g h : GameDayRecord} (hk : DayKept a g.day) (e : h = g) : DayKept a h.day := e ▸ hk

section
variable {a : Nat} {s : State}

theorem DayKept.turnDay (h : DayKept a s.gameDay.day) : DayKept a (turnDay s).1.gameDay.day := by
  rcases turnDay_cases s with ⟨-, e⟩ | ⟨-, hg, e⟩ | ⟨-, -, e⟩ <;> rw [e]
  · exact h
  · rw [postBoth_eq]
    exact h.trans ⟨Nat.le_succ _, fun hd => absurd hd (Nat.ne_of_lt hg)⟩
  · exact h

theorem DayKept.applyTurns (n k : Nat) (h : DayKept a s.gameDay.day) :
    DayKept a (applyTurns n (s, k)).1.gameDay.day := by
  induction n generalizing s k with
  | zero => exact h
  | succ n ih => exact ih _ h.turnDay

theorem fireAll_gameDay (es : List (Fin 8)) (s : State) : (fireAll es s).gameDay = s.gameDay := by
  rw [fireAll_eq]

theorem DayKept.secondArrivalOp (h : DayKept a s.gameDay.day) : DayKept a (secondArrivalOp s).gameDay.day := by
  have seconds (t : State) : (takeSecond t).gameDay = t.gameDay := fireAll_gameDay _ _
  have turned (t : State) (ht : DayKept a t.gameDay.day) : DayKept a (arrivalTurn t).gameDay.day := by
    unfold arrivalTurn
    dsimp only
    repeat' split
    · exact ht.turnDay.of_eq (fireAll_gameDay _ _)
    · exact ht.turnDay
    · exact ht
  unfold Machine.secondArrivalOp calendarSecond
  split
  · exact h
  · rw [seconds]
    split
    · exact h
    · exact (turned { s with crystal := 0, clock := s.clock.advance } h).of_eq (fireAll_gameDay _ _)

theorem DayKept.clockSetOp (h : DayKept a s.gameDay.day) (y mo d hr mi sec : Byte) :
    DayKept a (clockSetOp y mo d hr mi sec s).1.gameDay.day := by
  have forward (t : DateTime) : DayKept a (forwardSetting t s).gameDay.day := by
    have turned := DayKept.applyTurns (s := setClock t s) (min (turnInstants s.gameDay.startSecond (instant s.clock.now)
      (instant t)) s.gameDay.catchUp) 0 h
    simp only [forwardSetting]
    generalize Machine.applyTurns _ (setClock t s, 0) = r at turned ⊢
    rw [fireAll_gameDay, postGame_gameDay]
    dsimp only
    split
    · exact turned.of_eq (fireAll_gameDay _ _)
    · exact turned
  unfold Machine.clockSetOp
  dsimp only
  repeat' split
  · exact h
  · exact h.of_eq (by rw [firstSetting, fireAll_gameDay, postGame_gameDay]; rfl)
  · exact forward _
  · rw [backwardSetting, postGame_gameDay]
    exact h
  · rw [sameSetting, postGame_gameDay]
    exact h

end

/-- The command is no REBASE. -/
def NoRebase (i : Instr) : Prop := ∀ r v, i ≠ .rebase r v

theorem noRebase_of_mayTake {c i : Instr} {s : State} (hc : takesRebase c s = false) (hi : MayTake c s i) : NoRebase i := by
  rintro r v rfl
  have alone (b : Byte) (h : decodeBus b [] = some (.rebase r v)) : False :=
    absurd (busBytes_of_decodeBus h) (by simp [Instr.busBytes])
  have last (h : ∃ p, s.port.command = some p ∧ p.needed ≤ p.received.length + 1 ∧
      ∃ b, decodeBus p.byte (p.received ++ [b]) = some (.rebase r v)) :
      s.port.command.any (fun p => decide (commandCode p.byte = 0x23 ∧ p.needed ≤ p.received.length + 1)) = true := by
    obtain ⟨p, hp, hn, b, hb⟩ := h
    obtain ⟨code, -, -⟩ := spelling_inj (code := 0x23) (by decide) (busBytes_of_decodeBus hb)
    rw [hp]
    exact decide_eq_true ⟨code, hn⟩
  cases c with
  | commandPortWrite b | unknownCommand b => exact alone b hi
  | parameterByteWrite b | dataWrite b =>
    obtain ⟨p, hp, hn, hb⟩ := hi
    exact absurd (last ⟨p, hp, hn, b, hb⟩) (Bool.eq_false_iff.1 hc)
  | rebase => cases hc
  | _ => cases hi

section
variable {a : Nat} {s : State}

/-- An operation whose view of the state shows the game-day record keeps it. -/
theorem DayKept.ofView {α : Type} {view : State → α} {day : α → GameDayRecord} {t : State}
    (hk : DayKept a s.gameDay.day) (h : view t = view s) (hv : ∀ u, day (view u) = u.gameDay) : DayKept a t.gameDay.day :=
  hk.of_eq ((hv t).symm.trans ((congrArg day h).trans (hv s)))

theorem DayKept.busEffect (h : DayKept a s.gameDay.day) {i : Instr} (hi : NoRebase i) :
    DayKept a (busEffect i s).1.gameDay.day := by
  have kept {view : State → State} (hv : ∀ u, (view u).gameDay = u.gameDay)
      (e : view (Machine.busEffect i s).1 = view s) : DayKept a (Machine.busEffect i s).1.gameDay.day := h.ofView e hv
  cases i with
  | select | entry | statusClear | eventAck | eventAckLost | eventMask | lineEnable =>
    exact kept (view := outsideBus) (fun _ => rfl) (by simp [Machine.busEffect])
  | openTxn | commit | abort | erase | verify =>
    exact kept (view := outsideStore) (fun _ => rfl) (by simp [Machine.busEffect])
  | alarmArm | alarmDisarm => exact kept (view := outsideAlarms) (fun _ => rfl) (by simp [Machine.busEffect])
  | voiceSet | voiceStart | voiceStop | voicePitch | voiceLevel | waveLayout | ringSet | ringFlush | mixSet | clipClear =>
    exact kept (view := outsideSound) (fun _ => rfl) (by simp [Machine.busEffect])
  | rumbleDirect | rumblePattern | rumbleLink | rumbleStop | rumbleLimit =>
    exact kept (view := outsideDriver) (fun _ => rfl) (by simp [Machine.busEffect])
  | dayStart r hour minute =>
    rw [Machine.busEffect, dayStartOp_eq]
    split <;> exact h
  | rebase r v => exact absurd rfl (hi r v)
  | _ => exact h

theorem DayKept.linkEffect (h : DayKept a s.gameDay.day) (i : Instr) : DayKept a (linkEffect i s).1.gameDay.day := by
  have kept {view : State → State} (hv : ∀ u, (view u).gameDay = u.gameDay)
      (e : view (Machine.linkEffect i s).1 = view s) : DayKept a (Machine.linkEffect i s).1.gameDay.day := h.ofView e hv
  cases i with
  | hold | release => exact kept (view := outsideStore) (fun _ => rfl) (by simp [Machine.linkEffect, noData])
  | slotRead | readRecord | eventAck | eventAckLost | eventMask | lineEnable =>
    exact kept (view := outsideLink) (fun _ => rfl) (by simp [Machine.linkEffect, noData])
  | clockSet => exact h.clockSetOp ..
  | alarmArm | alarmDisarm =>
    exact kept (view := outsideAlarms) (fun _ => rfl) (by simp [Machine.linkEffect, noData])
  | silence | battery | powerMode =>
    exact kept (view := outsideSupply) (fun _ => rfl) (by simp [Machine.linkEffect, noData])
  | _ => exact h

theorem dayKept_bus : KeptOnBus NoRebase fun t => DayKept a t.gameDay.day where
  port h hs := hs.ofView (day := State.gameDay) h fun _ => rfl
  effect _ _ _ hi hs := hs.busEffect hi
  write b s _ hs := hs.ofView (day := fun d => d.2.2.2.1) (days_targetWrite b s) fun _ => rfl

theorem dayKept_link : KeptOnLink fun t => DayKept a t.gameDay.day where
  side h hs := hs.ofView (day := State.gameDay) h fun _ => rfl
  effect i _ _ hs := hs.linkEffect i

theorem DayKept.supplyFall (h : DayKept a s.gameDay.day) : DayKept a (supplyFall s).gameDay.day := by
  by_cases hp : s.power = .off
  · rwa [Machine.supplyFall, if_pos hp]
  · rw [supplyFall_eq hp]
    exact h.of_eq (congrArg State.gameDay (outsideStore_rollBack (noteFall s) .lostPower) :)

theorem DayKept.supplyRise (h : DayKept a s.gameDay.day) (hk : s.retention = .kept) :
    DayKept a (supplyRise s).gameDay.day := by
  unfold Machine.supplyRise
  split
  · rw [startUp_of_kept hk, postBoth_eq]
    exact h
  · exact h

theorem DayKept.busResetOp (h : DayKept a s.gameDay.day) : DayKept a (busResetOp s).gameDay.day := by
  by_cases hp : s.power = .off
  · rwa [busResetOp_of_off hp]
  · have records : DayKept a (gameSideReset (busResetStore { s with resetPin := true })).gameDay.day :=
      h.of_eq (congrArg State.gameDay (outsideStore_busResetStore { s with resetPin := true }) :)
    rw [busResetOp_of_on hp]
    unfold grantAfterReset
    split
    · exact records.of_eq (congrArg State.gameDay (outsideStore_grantPending _) :)
    · exact records

theorem dayKept_arrivals : KeptByArrivals fun t => DayKept a t.gameDay.day where
  fall _ hs := hs.supplyFall
  reset _ hs := hs.busResetOp
  release _ hs := hs
  loss s hs := by unfold retentionLossOp; split <;> exact hs
  second _ hs := hs.secondArrivalOp
  countdown e s hs := hs.ofView (day := State.gameDay) (outsideAlarms_countdownExpiryOp s e) fun _ => rfl
  frame first s hs := by
    have sound : outsideSound (envelopeFrames first false (mixFrame (envelopeFrames first true (countFrame s))))
        = outsideSound (countFrame s) := by simp
    unfold frameArrivalOp
    split
    · exact hs
    · exact hs.of_eq (congrArg State.gameDay sound :)
  voice v s hs := hs.ofView (day := State.gameDay) (outsideSound_voiceExpiry s v) fun _ => rfl
  stream s hs := hs.ofView (day := State.gameDay) (outsideSound_streamExpiry s) fun _ => rfl
  envelope v s hs := hs.ofView (day := State.gameDay) (outsideSound_envelopeExpiry s v) fun _ => rfl
  walk k s hs := hs.ofView (day := State.gameDay) (outsideStore_walkPages s k) fun _ => rfl
  driver _ h hs := hs.ofView (day := State.gameDay) h fun _ => rfl

end
end Sys2Proof.Safety

open Sys2Proof Sys2Proof.Machine Sys2Proof.Safety

/-- Settles O31: `turnDay_cases`, and that no command beside REBASE and a cell reset lowers the game day. -/
theorem turnRule : Obligations.TurnRule := by
  constructor
  · intro s
    rcases turnDay_cases s with ⟨hd, e⟩ | ⟨hd, hg, e⟩ | ⟨hd, hg, e⟩
    · exact ⟨fun _ => e, fun h => absurd h (Nat.ne_of_gt hd), fun h => absurd h (Nat.ne_of_gt hd)⟩
    · rw [postBoth_eq] at e
      exact ⟨fun h => absurd hd (Nat.ne_of_gt h), fun _ _ => e, fun _ h => absurd h (Nat.ne_of_lt hg)⟩
    · exact ⟨fun h => absurd hd (Nat.ne_of_gt h), fun _ h => absurd h (Nat.not_lt.2 hg), fun _ _ => e⟩
  · intro c s hc hr t ht
    exact kept_of_exec (P := fun t => DayKept s.gameDay.day t.gameDay.day) dayKept_bus dayKept_link dayKept_arrivals
      (fun i hi => noRebase_of_mayTake hc hi)
      (fun h => (DayKept.refl _).supplyRise (hr.resolve_left fun ne => ne h)) (DayKept.refl _) ht
end

section
/-! Voices and envelopes: each operation as what it makes of one voice and the VOICE_END it posts, and a run of them over
the voices in the order of their numbers (R92 to R97). -/

namespace Sys2Proof.Safety

open Sys2Proof.Machine

/-! ### Table voices and game queue -/

theorem queueAfter_nil (s : State) (q : EventRecord) : queueAfter s [] q = q := ite_self q

theorem queueAfter_append (s : State) (es fs : List (EventKind × Byte)) (q : EventRecord) :
    queueAfter s (es ++ fs) q = queueAfter s fs (queueAfter s es q) := by
  unfold queueAfter
  split
  · rfl
  · exact posted_append es fs q

theorem postGame_eq (k : EventKind) (d : Byte) (s : State) :
    postGame k d s = { s with gameEvents := queueAfter s [(k, d)] s.gameEvents } := by
  by_cases hp : s.power = .off
  · rw [postGame_of_off k d hp, queueAfter, if_pos hp]
  · rw [postGame_of_on k d hp, queueAfter, if_neg hp]
    rfl

/-- The state with other table voices, and what their changes post to the game queue. -/
def withVoices (w : Vector TableVoice 5) (es : List (EventKind × Byte)) (s : State) : State :=
  { s with voices := w, gameEvents := queueAfter s es s.gameEvents }

theorem withVoices_self (s : State) : withVoices s.voices [] s = s := by rw [withVoices, queueAfter_nil]

theorem withVoices_withVoices (w x : Vector TableVoice 5) (es fs : List (EventKind × Byte)) (s : State) :
    withVoices x fs (withVoices w es s) = withVoices x (es ++ fs) s := by
  rw [withVoices, withVoices, withVoices, queueAfter_append]
  rfl

theorem setVoice_eq_withVoices (v : Fin 5) (x : TableVoice) (s : State) :
    setVoice v x s = withVoices (s.voices.set v.val x v.isLt) [] s := by
  rw [withVoices, queueAfter_nil]
  rfl

theorem postGame_setVoice (k : EventKind) (d : Byte) (v : Fin 5) (x : TableVoice) (s : State) :
    postGame k d (setVoice v x s) = withVoices (s.voices.set v.val x v.isLt) [(k, d)] s := postGame_eq k d _

theorem set_same_voice (w : Vector TableVoice 5) (v : Fin 5) : w.set v.val w[v] v.isLt = w := Vector.set_getElem_self _

/-- VOICE_END for voice `v`, if there is one. -/
def voiceEnd (ends : Bool) (v : Fin 5) : List (EventKind × Byte) :=
  if ends then [(EventKind.voiceEnd, BitVec.ofNat 8 v.val)] else []

/-- Another record for table voice `v`, with VOICE_END if that ends it. -/
def withVoice (v : Fin 5) (x : TableVoice) (ends : Bool) (s : State) : State :=
  withVoices (s.voices.set v.val x v.isLt) (voiceEnd ends v) s

theorem withVoice_self (v : Fin 5) (s : State) : withVoice v s.voices[v] false s = s := by
  rw [withVoice, set_same_voice]
  exact withVoices_self s

theorem withVoice_of_on {s : State} (hp : s.power ≠ .off) (v : Fin 5) (x : TableVoice) (ends : Bool) :
    withVoice v x ends s = { s with
      voices := s.voices.set v.val x v.isLt
      gameEvents := if ends then s.gameEvents.post .voiceEnd (BitVec.ofNat 8 v.val) else s.gameEvents } := by
  rw [withVoice, withVoices, queueAfter, if_neg hp]
  cases ends <;> rfl

/-! ### Steps -/

theorem setVoice_setVoice (v : Fin 5) (x y : TableVoice) (s : State) : setVoice v y (setVoice v x s) = setVoice v y s :=
  congrArg (fun w => { s with voices := w }) (Vector.set_set _ v.isLt)

theorem setVoice_voice (v : Fin 5) (x : TableVoice) (s : State) : (setVoice v x s).voices[v] = x :=
  Vector.getElem_set_self v.isLt

/-- The three cases of a step, by the position reduced modulo the waveform's length (R94). -/
theorem steppedVoice_cases (s : State) (x : TableVoice) {p len : Nat} (hl : len = waveLength s.layout x.code)
    (hp : p = x.position % len) :
    let y := { x with divider := x.divider.reload }
    (p < len - 1 ∧ stepEnds s x = false ∧
      steppedVoice s x = { y with position := p + 1, sample := waveSample s x.code (p + 1) }) ∨
    (¬p < len - 1 ∧ x.loop = true ∧ stepEnds s x = false ∧ steppedVoice s x =
      { y with position := x.loopPosition % len, sample := waveSample s x.code (x.loopPosition % len) }) ∨
    (¬p < len - 1 ∧ x.loop = false ∧ stepEnds s x = true ∧
      steppedVoice s x = { y with position := p, sample := 0x00, state := .stopped }) := by
  subst hl hp
  unfold steppedVoice stepEnds
  by_cases inside : x.position % waveLength s.layout x.code < waveLength s.layout x.code - 1
  · have within : ¬waveLength s.layout x.code ≤ x.position % waveLength s.layout x.code + 1 := by omega
    exact .inl ⟨inside, by rw [decide_eq_false within, Bool.false_and], if_pos inside⟩
  · have last : waveLength s.layout x.code ≤ x.position % waveLength s.layout x.code + 1 := by omega
    cases hx : x.loop
    · exact .inr (.inr ⟨inside, rfl, by rw [decide_eq_true last]; rfl, by simp [inside, Divider.reload]⟩)
    · exact .inr (.inl ⟨inside, rfl, by rw [Bool.not_true, Bool.and_false], by simp [inside, Divider.reload]⟩)

/-- A step of a voice whose countdown has been reloaded (R92, R94). -/
theorem stepVoice_reloaded (v : Fin 5) (s : State) :
    stepVoice v (setVoice v { s.voices[v] with divider := s.voices[v].divider.reload } s) =
      withVoice v (steppedVoice s s.voices[v]) (stepEnds s s.voices[v]) s := by
  have same (y : TableVoice) (c i : Nat) : waveSample (setVoice v y s) c i = waveSample s c i := rfl
  generalize s.voices[v] = x
  rw [stepVoice, setVoice_voice]
  simp only [setVoice_layout, setVoice_setVoice, same]
  rcases steppedVoice_cases s x rfl rfl with ⟨inside, ends, e⟩ | ⟨last, loop, ends, e⟩ | ⟨last, loop, ends, e⟩ <;>
    rw [e, ends]
  · rw [if_pos inside]
    exact setVoice_eq_withVoices v _ s
  · rw [if_neg last, if_pos loop]
    exact setVoice_eq_withVoices v _ s
  · rw [if_neg last, if_neg (by rw [loop]; decide)]
    exact postGame_setVoice _ _ v _ s

theorem voiceExpiry_eq (v : Fin 5) (s : State) :
    voiceExpiry v s =
      if s.voices[v].state = .playing ∧ s.voices[v].divider.countdown = 0 then
        withVoice v (steppedVoice s s.voices[v]) (stepEnds s s.voices[v]) s
      else s := by
  rw [voiceExpiry, stepVoice_reloaded]

/-! ### Envelopes -/

theorem envelopeOf_castSucc (s : State) (v : Fin 5) : envelopeOf s v.castSucc = s.voices[v].envelope := dif_pos v.isLt
theorem envelopeOf_last (s : State) : envelopeOf s (Fin.last 5) = s.voice5.envelope := rfl

theorem setEnvelope_castSucc (s : State) (v : Fin 5) (e : Envelope) :
    setEnvelope v.castSucc e s = setVoice v { s.voices[v] with envelope := e } s := dif_pos v.isLt

theorem setEnvelope_last (s : State) (e : Envelope) :
    setEnvelope (Fin.last 5) e s = { s with voice5.envelope := e } := rfl

theorem voiceRuns_castSucc (s : State) (v : Fin 5) :
    voiceRuns s v.castSucc = decide (s.voices[v].state = .playing) := dif_pos v.isLt

theorem voiceRuns_last (s : State) : voiceRuns s (Fin.last 5) = s.ring.state.running := rfl

theorem moved_eq (e : Envelope) : e.moved = movedEnvelope e := by
  unfold Envelope.moved movedEnvelope
  cases e.direction <;> rfl

theorem moveEnvelope_last (s : State) :
    moveEnvelope (Fin.last 5) s = { s with voice5.envelope := movedEnvelope s.voice5.envelope } := by
  rw [← moved_eq]
  rfl

theorem moveEnvelope_castSucc (s : State) (v : Fin 5) :
    moveEnvelope v.castSucc s = withVoice v (movedVoice s.voices[v]) (moveStops s.voices[v]) s := by
  have moves : moveEnvelope v.castSucc s =
      stopAtZero v (setVoice v { s.voices[v] with envelope := movedEnvelope s.voices[v].envelope } s) := by
    unfold moveEnvelope
    rw [envelopeOf_castSucc, setEnvelope_castSucc, moved_eq]
    exact dif_pos v.isLt
  rw [moves]
  generalize s.voices[v] = x
  have stops : (x.stopAtZero = true ∧ (movedEnvelope x.envelope).direction = .down ∧
      (movedEnvelope x.envelope).volume = 0) ↔ moveStops x = true := by
    simp only [moveStops, Bool.and_eq_true, decide_eq_true_eq, and_assoc]
    rfl
  rw [stopAtZero, setVoice_voice]
  simp only [setVoice_setVoice, stops]
  unfold movedVoice
  cases moveStops x
  · exact setVoice_eq_withVoices v _ s
  · exact postGame_setVoice _ _ v _ s

theorem moveIsDue_eq (e : Envelope) : e.due = moveIsDue e := rfl

/-- A frame at a table voice's envelope (R96). -/
theorem envelopeFrame_castSucc (s : State) (v : Fin 5) :
    envelopeFrame v.castSucc s = withVoice v (voiceAfterFrame s.voices[v]) (stopsAtFrame s.voices[v]) s := by
  have self := (withVoice_self v s).symm
  have moved := moveEnvelope_castSucc s v
  have counted := setVoice_eq_withVoices v
    { s.voices[v] with envelope := { s.voices[v].envelope with count := s.voices[v].envelope.count + 1 } } s
  unfold envelopeFrame
  dsimp only
  rw [envelopeOf_castSucc, setEnvelope_castSucc, voiceRuns_castSucc, moveIsDue_eq]
  generalize s.voices[v] = x at self moved counted ⊢
  unfold voiceAfterFrame stopsAtFrame
  have runs : (decide (x.state = .playing) && x.envelope.active) = decide (x.state = .playing ∧ x.envelope.active = true) :=
    by simp
  rw [runs]
  by_cases h : x.state = .playing ∧ x.envelope.active = true
  · rw [decide_eq_true h, if_pos rfl, if_pos h]
    cases moveIsDue x.envelope
    · exact counted
    · exact moved
  · rw [decide_eq_false h, if_neg h]
    exact self

/-- A frame at the stream voice's envelope (R96). -/
theorem envelopeFrame_last (s : State) :
    envelopeFrame (Fin.last 5) s = { s with voice5 :=
      if s.ring.state.running = true ∧ s.voice5.envelope.active = true then
        { s.voice5 with
          envelope := if moveIsDue s.voice5.envelope then movedEnvelope s.voice5.envelope
            else { s.voice5.envelope with count := s.voice5.envelope.count + 1 } }
      else s.voice5 } := by
  unfold envelopeFrame
  dsimp only
  rw [envelopeOf_last, voiceRuns_last, moveEnvelope_last, setEnvelope_last, moveIsDue_eq]
  simp only [Bool.and_eq_true]
  by_cases runs : s.ring.state.running = true ∧ s.voice5.envelope.active = true
  · rw [if_pos runs, if_pos runs]
    cases moveIsDue s.voice5.envelope <;> rfl
  · rw [if_neg runs, if_neg runs]

/-- The count of a table voice's envelope at its end (R96). -/
theorem envelopeExpiry_castSucc (s : State) (v : Fin 5) :
    envelopeExpiry v.castSucc s =
      if s.voices[v].state = .playing ∧ s.voices[v].envelope.active = true ∧ moveIsDue s.voices[v].envelope = true then
        withVoice v (movedVoice s.voices[v]) (moveStops s.voices[v]) s
      else s := by
  unfold envelopeExpiry
  dsimp only
  rw [envelopeOf_castSucc, voiceRuns_castSucc, moveEnvelope_castSucc, moveIsDue_eq]
  simp only [Bool.and_eq_true, decide_eq_true_eq, and_assoc]

theorem envelopeExpiry_last (s : State) :
    envelopeExpiry (Fin.last 5) s =
      if s.ring.state.running = true ∧ s.voice5.envelope.active = true ∧ moveIsDue s.voice5.envelope = true then
        { s with voice5 := { s.voice5 with envelope := movedEnvelope s.voice5.envelope } }
      else s := by
  unfold envelopeExpiry
  dsimp only
  rw [envelopeOf_last, voiceRuns_last, moveEnvelope_last, moveIsDue_eq]
  simp only [Bool.and_eq_true, and_assoc]

/-! ### One operation at each voice -/

theorem flatMap_voiceEnd (p : Fin 5 → Bool) (l : List (Fin 5)) :
    l.flatMap (fun v => voiceEnd (p v) v) = (l.filter p).map fun v => (EventKind.voiceEnd, BitVec.ofNat 8 v.val) := by
  induction l with
  | nil => rfl
  | cons v l ih =>
    rw [List.flatMap_cons, ih, List.filter_cons]
    cases p v <;> rfl

section
variable {s : State} {f : State → Fin 5 → State} {g : Fin 5 → TableVoice → TableVoice} {ends : Fin 5 → TableVoice → Bool}

/-- An operation taken at some voices in turn, each changing its own voice alone, is one update of them all. -/
theorem foldl_withVoices
    (hf : ∀ w es v, f (withVoices w es s) v = withVoice v (g v w[v]) (ends v w[v]) (withVoices w es s))
    {l : List (Fin 5)} (hl : l.Nodup) (w : Vector TableVoice 5) (es : List (EventKind × Byte)) :
    l.foldl f (withVoices w es s) = withVoices (Vector.ofFn fun v => if v ∈ l then g v w[v] else w[v])
      (es ++ l.flatMap fun v => voiceEnd (ends v w[v]) v) s := by
  induction l generalizing w es with
  | nil => simp
  | cons v l ih =>
    obtain ⟨hv, hl⟩ := List.nodup_cons.1 hl
    have other (u : Fin 5) (hu : u ∈ l) : (w.set v.val (g v w[v]) v.isLt)[u] = w[u] :=
      Vector.getElem_set_ne v.isLt u.isLt fun e => hv (Fin.ext e ▸ hu)
    have one : f (withVoices w es s) v =
        withVoices (w.set v.val (g v w[v]) v.isLt) (es ++ voiceEnd (ends v w[v]) v) s :=
      (hf w es v).trans (withVoices_withVoices ..)
    rw [List.foldl_cons, one, ih hl, List.append_assoc, List.flatMap_cons]
    have posts : (l.flatMap fun u => voiceEnd (ends u (w.set v.val (g v w[v]) v.isLt)[u]) u) =
        l.flatMap fun u => voiceEnd (ends u w[u]) u :=
      List.flatMap_congr fun u hu => by rw [other u hu]
    have voices : (Vector.ofFn fun u : Fin 5 => if u ∈ l then g u (w.set v.val (g v w[v]) v.isLt)[u]
        else (w.set v.val (g v w[v]) v.isLt)[u]) = Vector.ofFn fun u : Fin 5 => if u ∈ v :: l then g u w[u] else w[u] := by
      refine congrArg Vector.ofFn (funext fun u => ?_)
      by_cases e : u = v
      · rw [if_neg (e ▸ hv), if_pos (e ▸ List.mem_cons_self), e]
        exact Vector.getElem_set_self v.isLt
      · have set : (w.set v.val (g v w[v]) v.isLt)[u] = w[u] :=
          Vector.getElem_set_ne v.isLt u.isLt fun h => e (Fin.ext h.symm)
        rw [set]
        exact if_congr (by rw [List.mem_cons, or_iff_right e]) rfl rfl
    rw [posts, voices]

/-- The same at every voice. -/
theorem foldl_voices
    (hf : ∀ w es v, f (withVoices w es s) v = withVoice v (g v w[v]) (ends v w[v]) (withVoices w es s)) :
    (List.finRange 5).foldl f s = withVoices (Vector.ofFn fun v => g v s.voices[v])
      (((List.finRange 5).filter fun v => ends v s.voices[v]).map fun v => (EventKind.voiceEnd, BitVec.ofNat 8 v.val)) s := by
  have all := foldl_withVoices hf (List.nodup_finRange 5) s.voices []
  rw [withVoices_self] at all
  rw [all, List.nil_append, flatMap_voiceEnd]
  simp only [List.mem_finRange, if_true]

end

/-! ### The engine clock -/

/-- A table voice after one engine clock (R92). -/
def clockedVoice (s : State) (x : TableVoice) : TableVoice :=
  if x.state ≠ .playing then x
  else if x.divider.countdown = 0 then steppedVoice s x
  else { x with divider := countedDown x.divider }

/-- An engine clock that ends a table voice. -/
def endsAtClock (s : State) (x : TableVoice) : Bool :=
  decide (x.state = .playing ∧ x.divider.countdown = 0) && stepEnds s x

theorem voiceClock_eq (s : State) (v : Fin 5) :
    voiceClock s v = withVoice v (clockedVoice s s.voices[v]) (endsAtClock s s.voices[v]) s := by
  have self := (withVoice_self v s).symm
  have counted := setVoice_eq_withVoices v { s.voices[v] with divider := countedDown s.voices[v].divider } s
  unfold voiceClock
  dsimp only
  rw [voiceExpiry_eq]
  generalize s.voices[v] = x at self counted ⊢
  unfold clockedVoice endsAtClock
  by_cases hp : x.state = .playing
  · rw [if_pos hp, if_neg (not_not.2 hp)]
    by_cases hc : x.divider.countdown = 0
    · rw [if_pos hc, if_pos hc, if_pos ⟨hp, hc⟩, decide_eq_true (And.intro hp hc), Bool.true_and]
    · rw [if_neg hc, if_neg hc, decide_eq_false fun h => hc h.2, Bool.false_and]
      exact counted
  · rw [if_neg hp, if_pos hp, decide_eq_false fun h => hp h.1, Bool.false_and]
    exact self

theorem voicesClock_eq (s : State) :
    (List.finRange 5).foldl voiceClock s = withVoices (Vector.ofFn fun v => clockedVoice s s.voices[v])
      (((List.finRange 5).filter fun v => endsAtClock s s.voices[v]).map
        fun v => (EventKind.voiceEnd, BitVec.ofNat 8 v.val)) s :=
  foldl_voices (g := fun _ => clockedVoice s) (ends := fun _ => endsAtClock s) fun w es v => voiceClock_eq (withVoices w es s) v

theorem streamClock_eq (s : State) : streamClock s =
    if s.ring.state.running = false then s
    else if s.voice5.divider.countdown = 0 then streamExpiry s
    else { s with voice5 := { s.voice5 with divider := countedDown s.voice5.divider } } := by
  unfold streamClock
  cases s.ring.state.running <;> rfl

/-! ### Frames at the envelopes -/

theorem envelopeFrames_eq (who : BitVec 6) (b : Bool) (s : State) :
    envelopeFrames who b s =
      let t := withVoices (Vector.ofFn fun v => if who.getLsbD v.val = b then voiceAfterFrame s.voices[v] else s.voices[v])
        (((List.finRange 5).filter fun v => who.getLsbD v.val == b && stopsAtFrame s.voices[v]).map
          fun v => (EventKind.voiceEnd, BitVec.ofNat 8 v.val)) s
      if who.getLsbD 5 = b then envelopeFrame (Fin.last 5) t else t := by
  have tables (w : Vector TableVoice 5) (es : List (EventKind × Byte)) (v : Fin 5) :
      (if who.getLsbD v.castSucc.val = b then envelopeFrame v.castSucc (withVoices w es s) else withVoices w es s) =
        withVoice v (if who.getLsbD v.val = b then voiceAfterFrame w[v] else w[v])
          (who.getLsbD v.val == b && stopsAtFrame w[v]) (withVoices w es s) := by
    rw [Fin.val_castSucc]
    split
    · next h =>
      rw [h, beq_self_eq_true, Bool.true_and]
      exact envelopeFrame_castSucc _ v
    · next h =>
      rw [beq_eq_false_iff_ne.2 h, Bool.false_and]
      exact (withVoice_self v (withVoices w es s)).symm
  have folded := foldl_voices (f := fun t v => if who.getLsbD v.castSucc.val = b then envelopeFrame v.castSucc t else t)
    (g := fun v x => if who.getLsbD v.val = b then voiceAfterFrame x else x) (ends := fun v x => who.getLsbD v.val == b && stopsAtFrame x) tables
  unfold envelopeFrames
  rw [List.finRange_succ_last, List.foldl_append, List.foldl_map, folded]
  rfl

end Sys2Proof.Safety

open Sys2Proof Sys2Proof.Machine Sys2Proof.Safety

/-- Settles O3: one engine clock at the table voices in turn, then at the stream. -/
theorem idleStepIsOneEngineClock : Obligations.IdleStepIsOneEngineClock := by
  intro s hs
  have engine : step s = .next (engineClock s) := by rw [step, hs]
  rw [engine, engineClock, streamClock_eq, voicesClock_eq]
  simp only [apply_ite Host.Outcome.next]
  rfl

end

section
/-! The voice commands (R93, R97 to R100, R104), and a step or a move that waits after one. -/

namespace Sys2Proof.Safety

open Sys2Proof.Machine

/-! ### One voice of a parameter -/

section
variable {s : State} {b : Byte} (f : TableVoice → TableVoice)

theorem setVoice_of_lt (h : b.toNat < 5) :
    setVoice ⟨b.toNat, h⟩ (f s.voices[b.toNat]) s = { s with
      voices := Vector.ofFn fun v : Fin 5 => if v.val = b.toNat then f s.voices[v] else s.voices[v] } := by
  have voices : s.voices.set b.toNat (f s.voices[b.toNat]) h =
      Vector.ofFn fun v : Fin 5 => if v.val = b.toNat then f s.voices[v] else s.voices[v] := by
    refine Vector.ext fun i hi => ?_
    rw [Vector.getElem_ofFn, Vector.getElem_set]
    by_cases e : i = b.toNat
    · subst e
      rw [if_pos rfl]
      exact (if_pos rfl).symm
    · rw [if_neg (Ne.symm e)]
      exact (if_neg e).symm
  exact congrArg (fun w => { s with voices := w }) voices

theorem voices_of_le (h : 5 ≤ b.toNat) :
    (Vector.ofFn fun v : Fin 5 => if v.val = b.toNat then f s.voices[v] else s.voices[v]) = s.voices := by
  refine Vector.ext fun i hi => ?_
  rw [Vector.getElem_ofFn]
  exact if_neg (Nat.ne_of_lt (Nat.lt_of_lt_of_le hi h))

end

/-! ### Fields of a voice -/

/-- The checks of VOICE SET, in the order of R98. -/
theorem voiceSetOp_eq (b code start loop flags : Byte) (s : State) :
    voiceSetOp b code start loop flags s = checked
      [(decide (5 ≤ b.toNat), .noSuch), (decide (32 ≤ code.toNat), .noSuch), (decide (3 < flags.toNat), .range)]
      { s with voices := Vector.ofFn fun v : Fin 5 => if v.val = b.toNat then { s.voices[v] with
          code := code.toNat, start := start.toNat, loopPosition := loop.toNat
          loop := flags.getLsbD 0, stopAtZero := flags.getLsbD 1 } else s.voices[v] } s := by
  unfold voiceSetOp
  rw [checked_cons (by decide), checked_cons (by decide), checked_cons (by decide), checked_nil]
  by_cases hb : b.toNat < 5
  · have set := setVoice_of_lt (s := s) (fun x => { x with
      code := code.toNat, start := start.toNat, loopPosition := loop.toNat
      loop := flags.getLsbD 0, stopAtZero := flags.getLsbD 1 }) hb
    rw [indexBelow_of_lt hb, decide_eq_false (Nat.not_le.2 hb)]
    simp only [decide_eq_true_eq, Bool.false_eq_true, if_false]
    rw [← set]
    rfl
  · rw [indexBelow_of_le (Nat.le_of_not_lt hb), decide_eq_true (Nat.le_of_not_lt hb), if_pos rfl]

/-- The divider VOICE PITCH leaves, with D' as R93 gives it. -/
theorem pitched_eq (x : Divider) (d : Half) (tune : Byte) :
    x.pitched d tune = { x with
      d := min d.toNat 2047, detune := tune
      effective := (max 0 (min (((min d.toNat 2047 : Nat) : Int) + tune.toInt) 2047)).toNat } := by
  have effective (n : Nat) : effectiveDivider n tune = (max 0 (min ((n : Int) + tune.toInt) 2047)).toNat := by
    unfold effectiveDivider
    omega
  rw [Divider.pitched, effective]

theorem pitchClamped_iff (d : Half) (tune : Byte) :
    pitchClamped d tune = true ↔ 2047 < d.toNat ∨ ((min d.toNat 2047 : Nat) : Int) + tune.toInt < 0
      ∨ 2047 < ((min d.toNat 2047 : Nat) : Int) + tune.toInt := by
  unfold pitchClamped effectiveDivider
  dsimp only
  rw [decide_eq_true_eq]
  omega

/-- VOICE PITCH on its voice (R93). -/
theorem voicePitchOp_eq (b : Byte) (d : Half) (tune : Byte) (s : State) :
    voicePitchOp b d tune s =
      if 6 ≤ b.toNat then refuse .noSuch s
      else ({ s with
          voices := Vector.ofFn fun v : Fin 5 => if v.val = b.toNat
            then { s.voices[v] with divider := s.voices[v].divider.pitched d tune } else s.voices[v]
          voice5 := if b.toNat = 5 then { s.voice5 with divider := s.voice5.divider.pitched d tune } else s.voice5 },
        if pitchClamped d tune then .clamped else .ok) := by
  unfold voicePitchOp
  by_cases hb : b.toNat < 6
  · rw [indexBelow_of_lt hb, if_neg (Nat.not_le.2 hb)]
    dsimp only
    by_cases h5 : b.toNat < 5
    · have set := setVoice_of_lt (s := s) (fun x => { x with divider := x.divider.pitched d tune }) h5
      rw [dif_pos h5, if_neg (Nat.ne_of_lt h5), set]
    · have e5 : b.toNat = 5 := by omega
      have none := voices_of_le (s := s) (fun x => { x with divider := x.divider.pitched d tune }) (Nat.le_of_not_lt h5)
      rw [dif_neg h5, if_pos e5, none]
  · rw [indexBelow_of_le (Nat.le_of_not_lt hb), if_pos (Nat.le_of_not_lt hb)]

theorem directionOf_eq (b : Byte) : directionOf b =
    if 2 < b.toNat then none else some (if b = 0x00 then .none else if b = 0x01 then .up else .down) := by
  unfold directionOf
  by_cases h0 : b = 0x00
  · subst h0
    rfl
  · by_cases h1 : b = 0x01
    · subst h1
      rfl
    · rw [if_neg h0, if_neg h1, if_neg h0, if_neg h1]
      have above : b = 0x02 ↔ ¬2 < b.toNat := by bv_omega
      simp only [above, ite_not]

/-- The envelope VOICE LEVEL gives a voice (R97). -/
def sentEnvelope (vol dir per : Byte) : Envelope where
  volume := min vol.toNat 15
  period := min per.toNat 7
  count := 0
  direction := if dir = 0x00 then .none else if dir = 0x01 then .up else .down

/-- An envelope just sent makes no move at the next frame (R101). -/
theorem sentEnvelope_not_due (vol dir per : Byte) (ha : (sentEnvelope vol dir per).active = true) :
    ¬moveIsDue (sentEnvelope vol dir per) = true := by
  intro due
  have period : 0 < min per.toNat 7 := (of_decide_eq_true ha).1
  have last : min per.toNat 7 * 512 ≤ 0 + 1 := of_decide_eq_true due
  omega

/-- VOICE LEVEL on its voice (R97). -/
theorem voiceLevelOp_eq (b vol dir per : Byte) (s : State) :
    voiceLevelOp b vol dir per s =
      if 6 ≤ b.toNat then refuse .noSuch s
      else if 2 < dir.toNat then refuse .range s
      else ({ s with
          voices := Vector.ofFn fun v : Fin 5 => if v.val = b.toNat
            then { s.voices[v] with envelope := sentEnvelope vol dir per } else s.voices[v]
          voice5 := if b.toNat = 5 then { s.voice5 with envelope := sentEnvelope vol dir per } else s.voice5 },
        if 15 < vol.toNat ∨ 7 < per.toNat then .clamped else .ok) := by
  unfold voiceLevelOp
  by_cases hb : b.toNat < 6
  · rw [indexBelow_of_lt hb, if_neg (Nat.not_le.2 hb), directionOf_eq]
    by_cases hd : 2 < dir.toNat
    · rw [if_pos hd, if_pos hd]
    · rw [if_neg hd, if_neg hd]
      dsimp only [setEnvelope]
      by_cases h5 : b.toNat < 5
      · have set := setVoice_of_lt (s := s) (fun x => { x with envelope := sentEnvelope vol dir per }) h5
        rw [dif_pos h5, if_neg (Nat.ne_of_lt h5), ← set]
        rfl
      · have e5 : b.toNat = 5 := by omega
        have none := voices_of_le (s := s) (fun x => { x with envelope := sentEnvelope vol dir per }) (Nat.le_of_not_lt h5)
        rw [dif_neg h5, if_pos e5, none]
        rfl
  · rw [indexBelow_of_le (Nat.le_of_not_lt hb), if_pos (Nat.le_of_not_lt hb)]

/-- WAVE LAYOUT on its byte (R104). -/
theorem waveLayoutOp_eq (b : Byte) (s : State) :
    waveLayoutOp b s = if 1 < b.toNat then refuse .range s
      else ({ s with layout := if b = 0x01 then .long else .short }, .ok) := by
  unfold waveLayoutOp
  rw [flagOf_eq]
  by_cases hb : b.toNat ≤ 1
  · rw [if_pos hb, if_neg (Nat.not_lt.2 hb)]
    by_cases h1 : b = 0x01
    · rw [decide_eq_true h1, if_pos h1]
    · rw [decide_eq_false h1, if_neg h1]
  · rw [if_neg hb, if_pos (Nat.lt_of_not_le hb)]

/-! ### Starts and stops -/

/-- VOICE START in one update (R99, R118). -/
theorem voiceStartOp_eq (mask : Byte) (s : State) :
    voiceStartOp mask s = ({ s with
      voices := Vector.ofFn fun v : Fin 5 => if mask.getLsbD v.val then restartVoice s s.voices[v] else s.voices[v]
      voice5 := if mask.getLsbD 5 then {
          divider := s.voice5.divider.reload, envelope := { s.voice5.envelope with count := 0 } }
        else s.voice5
      ring := if mask.getLsbD 5 then { s.ring with
          state := if s.power = .sleep then .paused (primedAt s.ring.level) else .run (primedAt s.ring.level)
          held := if s.ring.state = .idle then 0x00 else s.ring.held }
        else s.ring }, .ok) := by
  unfold voiceStartOp maskBit
  cases mask.getLsbD 5 <;> rfl

/-- VOICE STOP in one update (R100, R119). -/
theorem voiceStopOp_eq (mask : Byte) (s : State) :
    voiceStopOp mask s = ({ s with
      voices := Vector.ofFn fun v : Fin 5 => if mask.getLsbD v.val then s.voices[v].stop else s.voices[v]
      ring := if mask.getLsbD 5 then { s.ring with state := .idle, held := 0x00 } else s.ring }, .ok) := by
  unfold voiceStopOp maskBit
  cases mask.getLsbD 5 <;> rfl

end Sys2Proof.Safety

open Sys2Proof Sys2Proof.Machine Sys2Proof.Safety

/-- Settles O41: starts and stops as one update of the voices and the stream. -/
theorem voiceStartAndStopResults : Obligations.VoiceStartAndStopResults := fun r mask _ hs =>
  ⟨next_runBus r 0x31 hs (voiceStartOp_power ..) (voiceStartOp_eq mask _),
    next_runBus r 0x32 hs (voiceStopOp_power ..) (voiceStopOp_eq mask _)⟩

/-- Settles O39: the four commands, with the divider of R93 and the clamps of R93 and R97 written out. -/
theorem voiceCommandResults : Obligations.VoiceCommandResults := by
  intro r b code start loop flags tune vol dir per d s hs
  refine ⟨next_runBus r 0x30 hs (voiceSetOp_power ..) (voiceSetOp_eq ..), ?_, ?_, ?_⟩
  · have op := voicePitchOp_eq b d tune s
    simp only [pitchClamped_iff, pitched_eq] at op
    by_cases hb : 6 ≤ b.toNat
    · rw [if_pos hb] at op
      exact (next_runBus r 0x33 hs (voicePitchOp_power ..) op).trans (congrArg _ (if_pos hb).symm)
    · rw [if_neg hb] at op
      exact (next_runBus r 0x33 hs (voicePitchOp_power ..) op).trans (congrArg _ (if_neg hb).symm)
  · have op := voiceLevelOp_eq b vol dir per s
    by_cases hb : 6 ≤ b.toNat
    · rw [if_pos hb] at op
      exact (next_runBus r 0x34 hs (voiceLevelOp_power ..) op).trans (congrArg _ (if_pos hb).symm)
    · rw [if_neg hb] at op
      by_cases hd : 2 < dir.toNat
      · rw [if_pos hd] at op
        exact (next_runBus r 0x34 hs (voiceLevelOp_power ..) op).trans (congrArg _ ((if_neg hb).trans (if_pos hd)).symm)
      · rw [if_neg hd] at op
        exact (next_runBus r 0x34 hs (voiceLevelOp_power ..) op).trans (congrArg _ ((if_neg hb).trans (if_neg hd)).symm)
  · have op := waveLayoutOp_eq b s
    by_cases hb : 1 < b.toNat
    · rw [if_pos hb] at op ⊢
      exact next_runBus r 0x35 hs (waveLayoutOp_power ..) op
    · rw [if_neg hb] at op ⊢
      exact next_runBus r 0x35 hs (waveLayoutOp_power ..) op

/-- Settles O42: a step, and a move of either kind of envelope, at a voice whose count is at its end; VOICE START reloads the
one count, VOICE LEVEL the other. -/
theorem voiceStepAndEnvelopeMove : Obligations.VoiceStepAndEnvelopeMove := by
  have table (v : Fin 5) : Fin.ofNat 6 v.val = v.castSucc := Fin.ext (Nat.mod_eq_of_lt (by omega))
  refine ⟨fun s hp => ⟨fun v => ⟨?_, ?_⟩, ?_⟩, ?_⟩
  · rw [← withVoice_of_on hp]
    exact congrArg Host.Outcome.next (voiceExpiry_eq v s)
  · rw [table, ← withVoice_of_on hp]
    exact congrArg Host.Outcome.next (envelopeExpiry_castSucc s v)
  · exact congrArg Host.Outcome.next (envelopeExpiry_last s)
  · intro r mask vol dir per s hr v
    constructor
    · intro hm hd
      have run : exec (.voiceStart r mask) s = _ := next_runBus r 0x31 hr (voiceStartOp_power ..) (voiceStartOp_eq mask s)
      have started : (after (.voiceStart r mask) s).voices[v] = restartVoice s s.voices[v] := by
        rw [after, run]
        exact (Vector.getElem_ofFn v.isLt).trans (if_pos hm)
      show voiceExpiry v (after (.voiceStart r mask) s) = _
      rw [voiceExpiry_eq, started, if_neg fun h => Nat.ne_of_gt hd h.2]
    · intro hd
      have hv : (BitVec.ofNat 8 v.val).toNat = v.val := Nat.mod_eq_of_lt (by omega)
      have op := voiceLevelOp_eq (BitVec.ofNat 8 v.val) vol dir per s
      rw [hv, if_neg (by omega), if_neg (Nat.not_lt.2 hd)] at op
      have run : exec (.voiceLevel r (BitVec.ofNat 8 v.val) vol dir per) s = _ :=
        next_runBus r 0x34 hr (voiceLevelOp_power ..) op
      have sent : (after (.voiceLevel r (BitVec.ofNat 8 v.val) vol dir per) s).voices[v].envelope
          = sentEnvelope vol dir per := by
        rw [after, run]
        simp [reported]
      show envelopeExpiry (Fin.ofNat 6 v.val) (after (.voiceLevel r (BitVec.ofNat 8 v.val) vol dir per) s) = _
      rw [table, envelopeExpiry_castSucc, sent, if_neg fun h => sentEnvelope_not_due vol dir per h.2.1 h.2.2]

end

section
/-! A frame arrival (R95, R96, R126 to R132, R143): the envelopes before the Mixer, the frame, the envelopes after it. -/

namespace Sys2Proof.Safety

open Sys2Proof.Machine

/-! ### The envelopes of one side of the Mixer -/

/-- The table voices after a frame at the envelopes whose bit in `who` is `b`. -/
def framedVoices (who : BitVec 6) (b : Bool) (w : Vector TableVoice 5) : Vector TableVoice 5 :=
  Vector.ofFn fun v => if who.getLsbD v.val = b then voiceAfterFrame w[v] else w[v]

/-- What those frames post. -/
def frameEnds (who : BitVec 6) (b : Bool) (w : Vector TableVoice 5) : List (EventKind × Byte) :=
  ((List.finRange 5).filter fun v => who.getLsbD v.val == b && stopsAtFrame w[v]).map
    fun v => (EventKind.voiceEnd, BitVec.ofNat 8 v.val)

/-- The stream voice after a frame (R96). -/
def streamAfterFrame (running : Bool) (x : StreamVoice) : StreamVoice :=
  if running = true ∧ x.envelope.active = true then
    { x with envelope := if moveIsDue x.envelope then movedEnvelope x.envelope
        else { x.envelope with count := x.envelope.count + 1 } }
  else x

theorem envelopeFrames_frame (who : BitVec 6) (b : Bool) (s : State) :
    envelopeFrames who b s = { s with
      voices := framedVoices who b s.voices
      voice5 := if who.getLsbD 5 = b then streamAfterFrame s.ring.state.running s.voice5 else s.voice5
      gameEvents := queueAfter s (frameEnds who b s.voices) s.gameEvents } := by
  rw [envelopeFrames_eq]
  dsimp only
  split
  · exact envelopeFrame_last _
  · rfl

theorem framedVoices_get (who : BitVec 6) (b : Bool) (w : Vector TableVoice 5) (v : Fin 5) :
    (framedVoices who b w)[v] = if who.getLsbD v.val = b then voiceAfterFrame w[v] else w[v] :=
  Vector.getElem_ofFn v.isLt

/-- Both sides together: every voice takes its frame once. -/
theorem framedVoices_both (who : BitVec 6) (w : Vector TableVoice 5) (v : Fin 5) :
    (framedVoices who false (framedVoices who true w))[v] = voiceAfterFrame w[v] := by
  rw [framedVoices_get, framedVoices_get]
  cases who.getLsbD v.val <;> rfl

theorem frameEnds_after (who : BitVec 6) (w : Vector TableVoice 5) :
    frameEnds who false (framedVoices who true w) = frameEnds who false w := by
  refine congrArg (List.map _) (List.filter_congr fun v _ => ?_)
  rw [framedVoices_get]
  cases who.getLsbD v.val <;> rfl

/-! ### The Mixer -/

/-- What rounding adds before the division (R129). -/
def roundingOffset (r : Rounding) : Int :=
  match r with
  | .floor => 0
  | .nearest => 256

/-- The value C of a frame over the voices as the Mixer takes them (R127 to R129). -/
def mixedValue (s : State) : Int :=
  Int.fdiv (mixSum (fun v => s.voices[v]) s.voice5 s.ring * ((min s.mixer.master s.battery.volumeCap : Nat) : Int)
    + roundingOffset s.mixer.rounding) 512

theorem frameValue_eq (s : State) : frameValue s = mixedValue s := by
  have sum : voiceSum s = mixSum (fun v => s.voices[v]) s.voice5 s.ring := by
    unfold voiceSum mixSum
    rw [List.sum_eq_foldl, List.foldl_map]
    rfl
  have rounded (m : Rounding) (x : Int) : roundedMix m x = Int.fdiv (x + roundingOffset m) 512 := by
    rw [Int.fdiv_eq_ediv_of_nonneg _ (by decide)]
    cases m
    · exact congrArg (· / 512) (Int.add_zero x).symm
    · rfl
  rw [frameValue, rounded, sum]
  rfl

theorem saturate_ne_iff (c : Int) : saturate c ≠ c ↔ c < -512 ∨ 511 < c := by
  unfold saturate
  omega

/-- The frame is computed, in ACTIVE with the output enabled (R126, R132). -/
def frameComputed (s : State) : Bool := decide (s.power = .active ∧ s.mixer.enabled = true)

/-- A computed frame clamps (R130, R131). -/
def frameClamps (s : State) : Bool := frameComputed s && decide (mixedValue s < -512 ∨ 511 < mixedValue s)

/-- The mixer record after a frame (R126, R128, R130 to R132). -/
def mixedRecord (s : State) : MixerRecord :=
  if frameComputed s then { s.mixer with
    me := min s.mixer.master s.battery.volumeCap, dac := (max (-512) (min (mixedValue s) 511) + 512).toNat
    clip := s.mixer.clip || frameClamps s }
  else { s.mixer with dac := 512 }

/-- What a frame posts (R131). -/
def clipPost (s : State) : List (EventKind × Byte) :=
  if frameClamps s && !s.mixer.clip then [(EventKind.clip, 0x00)] else []

/-- A frame at the Mixer. -/
theorem mixFrame_eq (s : State) :
    mixFrame s = { s with mixer := mixedRecord s, gameEvents := queueAfter s (clipPost s) s.gameEvents } := by
  unfold mixFrame
  dsimp only
  rw [frameValue_eq]
  by_cases on : s.power = .active ∧ s.mixer.enabled = true
  · have computed : frameComputed s = true := decide_eq_true on
    rw [if_pos on, mixedRecord, if_pos computed]
    by_cases clip : saturate (mixedValue s) ≠ mixedValue s ∧ s.mixer.clip = false
    · have clamps : frameClamps s = true := by
        rw [frameClamps, computed, decide_eq_true ((saturate_ne_iff _).1 clip.1)]
        rfl
      rw [if_pos clip, postGame_eq, clipPost, clamps, clip.2]
      rfl
    · have silent : (frameClamps s && !s.mixer.clip) = false := by
        rw [frameClamps, computed, ← Bool.not_eq_true]
        simpa [saturate_ne_iff] using clip
      have same : (s.mixer.clip || frameClamps s) = s.mixer.clip := by
        cases h : s.mixer.clip <;> simp_all
      rw [if_neg clip, clipPost, silent, same]
      simp only [Bool.false_eq_true, if_false, queueAfter_nil]
      rfl
  · have computed : frameComputed s = false := decide_eq_false on
    rw [if_neg on, clipPost, mixedRecord, frameClamps, computed]
    simp only [Bool.false_and, Bool.false_eq_true, if_false, queueAfter_nil]

/-! ### The arrival -/

/-- The state the Mixer takes its voices from. -/
abbrev beforeMixer (first : BitVec 6) (s : State) : State := envelopeFrames first true (countFrame s)

theorem frameArrivalOp_eq {s : State} (hp : s.power ≠ .off) (first : BitVec 6) :
    frameArrivalOp first s =
      let u := beforeMixer first s
      { s with
        crystal := if s.retention = .lost then s.crystal else (s.crystal + 1) % 32768
        motor := if 14 ≤ s.motorFrame then s.rumble.level else s.motor
        motorFrame := if 14 ≤ s.motorFrame then 0 else s.motorFrame + 1
        voices := framedVoices first false (framedVoices first true s.voices)
        voice5 := streamAfterFrame s.ring.state.running s.voice5
        mixer := mixedRecord u
        gameEvents := posted (frameEnds first true s.voices ++ clipPost u ++ frameEnds first false s.voices) s.gameEvents } := by
  have stream (x : StreamVoice) (r : Bool) :
      (if first.getLsbD 5 = false then streamAfterFrame r (if first.getLsbD 5 = true then streamAfterFrame r x else x)
        else if first.getLsbD 5 = true then streamAfterFrame r x else x) = streamAfterFrame r x := by
    cases first.getLsbD 5 <;> rfl
  have framed := envelopeFrames_frame first true (countFrame s)
  rw [frameArrivalOp, if_neg hp, envelopeFrames_frame first false, mixFrame_eq]
  dsimp only [beforeMixer]
  generalize envelopeFrames first true (countFrame s) = u at framed ⊢
  generalize mixedRecord u = m, clipPost u = c
  subst framed
  have frame : periodEnds s = true ↔ 14 ≤ s.motorFrame := decide_eq_true_iff
  simp only [queueAfter, countFrame_power, countFrame_voices, countFrame_voice5, countFrame_ring, countFrame_gameEvents,
    if_neg hp, frameEnds_after, stream, posted_append]
  unfold countFrame
  simp only [frame, ne_eq, hp, not_false_eq_true, true_and, if_false]

/-- The value C of the frame: each voice after or before its envelope, as `first` says (R95). -/
theorem mixedValue_beforeMixer (first : BitVec 6) (s : State) :
    mixedValue (beforeMixer first s) = Int.fdiv (mixSum
      (fun v => if first.getLsbD v.val then (framedVoices first false (framedVoices first true s.voices))[v] else s.voices[v])
      (if first.getLsbD 5 then streamAfterFrame s.ring.state.running s.voice5 else s.voice5) s.ring
        * ((min s.mixer.master s.battery.volumeCap : Nat) : Int) + roundingOffset s.mixer.rounding) 512 := by
  rw [beforeMixer, envelopeFrames_frame, mixedValue]
  simp only [framedVoices_both]
  simp only [framedVoices_get, countFrame_voices, countFrame_voice5, countFrame_ring, countFrame_mixer,
    countFrame_battery]

theorem frameComputed_beforeMixer (first : BitVec 6) (s : State) :
    frameComputed (beforeMixer first s) = decide (s.power = .active ∧ s.mixer.enabled = true) := by
  rw [beforeMixer, envelopeFrames_frame]
  rfl

theorem mixer_beforeMixer (first : BitVec 6) (s : State) : (beforeMixer first s).mixer = s.mixer := by
  rw [beforeMixer, envelopeFrames_frame]
  rfl

theorem battery_beforeMixer (first : BitVec 6) (s : State) : (beforeMixer first s).battery = s.battery := by
  rw [beforeMixer, envelopeFrames_frame]
  rfl

/-- Without the main supply the crystal's count alone goes on (R143, R188). -/
theorem frameArrivalOp_of_off {s : State} (hp : s.power = .off) (first : BitVec 6) :
    frameArrivalOp first s =
      { s with crystal := if s.retention = .lost then s.crystal else (s.crystal + 1) % 32768 } := by
  rw [frameArrivalOp, if_pos hp, countFrame]
  simp only [hp, ne_eq, not_true_eq_false, false_and, if_false, if_true]

end Sys2Proof.Safety

open Sys2Proof Sys2Proof.Machine Sys2Proof.Safety

/-- Settles O45: the envelopes before the Mixer, the frame, the envelopes after it. -/
theorem frameArrivalResult : Obligations.FrameArrivalResult := by
  refine ⟨fun first s hp => congrArg Host.Outcome.next (frameArrivalOp_of_off hp first), fun first s hp =>
    ⟨_, congrArg Host.Outcome.next (frameArrivalOp_eq hp first), rfl, framedVoices_both first s.voices, rfl, ?_, ?_⟩⟩
  · dsimp only
    rw [mixedRecord, frameClamps, mixedValue_beforeMixer, frameComputed_beforeMixer, mixer_beforeMixer, battery_beforeMixer]
    rfl
  · dsimp only
    rw [clipPost, frameClamps, mixedValue_beforeMixer, frameComputed_beforeMixer, mixer_beforeMixer]
    rfl

end

section
/-! SILENCE, BATTERY and POWER MODE (R108, R109, R121, R122, R136, R151, R153, R186, R187): each as one update of the
records it reaches. -/

namespace Sys2Proof.Safety

open Sys2Proof.Machine

theorem formLevel_eq (s : State) : formLevel s = { s with rumble := { s.rumble with level := formedLevel s (modeLevel s) } } :=
  rfl

/-- SILENCE in one update. -/
theorem silenceOp_eq (s : State) : silenceOp s = (withMode .off 0 { s with
    voices := Vector.ofFn fun v : Fin 5 => s.voices[v].stop
    ring := { s.ring with play := s.ring.fill, level := 0, overrun := 0, state := .idle, held := 0x00 } }, .ok) := rfl

/-! ### BATTERY -/

/-- The battery state a valid byte names (R187). -/
def sentBattery (b : Byte) : BatteryState := if b = 0x00 then .good else if b = 0x01 then .low else .critical

theorem batteryOf_eq (b : Byte) : batteryOf b = if 2 < b.toNat then none else some (sentBattery b) := by
  unfold batteryOf sentBattery
  by_cases h0 : b = 0x00
  · subst h0
    rfl
  · by_cases h1 : b = 0x01
    · subst h1
      rfl
    · rw [if_neg h0, if_neg h1, if_neg h0, if_neg h1]
      have above : b = 0x02 ↔ ¬2 < b.toNat := by bv_omega
      simp only [above, ite_not]

theorem code_sentBattery {b : Byte} (h : ¬2 < b.toNat) : (sentBattery b).code = b := by
  have cases : b = 0x00 ∨ b = 0x01 ∨ b = 0x02 := by bv_omega
  rcases cases with rfl | rfl | rfl <;> rfl

/-- A change of battery state: the level formed, BATTERY and the cap cut (R151, R187). -/
theorem changeBattery_eq {s : State} (hp : s.power ≠ .off) (new : BatteryState) :
    changeBattery new s =
      let u := { s with battery := new }
      { u with
        rumble := { s.rumble with level := formedLevel u (modeLevel s) }
        gameEvents :=
          let q := s.gameEvents.post .battery new.code
          if new = .critical ∧ 0 < modeLevel s then q.post .rumbleCut 1 else q } := by
  have posted := postGame_of_on (s := formLevel { s with battery := new }) .battery new.code hp
  unfold changeBattery
  rw [posted]
  dsimp only
  split
  · exact postGame_of_on .rumbleCut 1 (by exact hp)
  · rfl

/-! ### POWER MODE -/

/-- The stream state of a pause (R121). -/
def StreamState.pause (r : StreamState) : StreamState :=
  match r with
  | .run x => .paused x
  | x => x

/-- The stream state of a resumption (R121). -/
def StreamState.resume (r : StreamState) : StreamState :=
  match r with
  | .paused x => .run x
  | x => x

theorem pauseStream_eq (s : State) : pauseStream s = { s with ring := { s.ring with state := StreamState.pause s.ring.state } } := by
  unfold pauseStream StreamState.pause
  cases h : s.ring.state <;> simp [← h]

theorem resumeStream_eq (s : State) :
    resumeStream s = { s with ring := { s.ring with state := StreamState.resume s.ring.state } } := by
  unfold resumeStream StreamState.resume
  cases h : s.ring.state <;> simp [← h]

/-- The change to SLEEP in one update. -/
theorem enterSleep_eq (s : State) : enterSleep s = { s with
    power := .sleep
    voices := Vector.ofFn fun v : Fin 5 =>
      if s.voices[v].state = .playing then { s.voices[v] with state := .paused } else s.voices[v]
    ring := { s.ring with state := StreamState.pause s.ring.state }
    mixer := { s.mixer with dac := 512 }, rumble := { s.rumble with level := 0 } } := by
  have level (t : State) (h : t.power = .sleep) : formLevel t = { t with rumble := { t.rumble with level := 0 } } := by
    rw [formLevel_eq, formedLevel_of_silenced _ (.inl (by rw [h]; decide))]
  rw [enterSleep, pauseStream_eq, level _ rfl]
  rfl

/-- The change to ACTIVE in one update: voices and stream first, then the level. -/
theorem enterActive_eq (s : State) : enterActive s =
    let u := { s with
      power := .active
      voices := Vector.ofFn fun v : Fin 5 =>
        if s.voices[v].state = VoiceState.paused then { s.voices[v] with state := .playing } else s.voices[v]
      ring := { s.ring with state := StreamState.resume s.ring.state } }
    { u with rumble := { s.rumble with level := formedLevel u (modeLevel u) } } := by
  rw [enterActive, resumeStream_eq, formLevel_eq]
  rfl

/-- POWER MODE on its byte (R186). -/
theorem powerModeOp_eq (b : Byte) (s : State) : powerModeOp b s =
    if 1 < b.toNat then refuse .range s
    else if b = 0x01 then (if s.power = .active then enterSleep s else s, .ok)
    else (if s.power = .sleep then enterActive s else s, .ok) := by
  unfold powerModeOp
  rw [flagOf_eq]
  by_cases hb : b.toNat ≤ 1
  · rw [if_pos hb, if_neg (Nat.not_lt.2 hb)]
    by_cases h1 : b = 0x01
    · rw [decide_eq_true h1, if_pos h1]
    · rw [decide_eq_false h1, if_neg h1]
  · rw [if_neg hb, if_pos (Nat.lt_of_not_le hb)]

theorem exec_powerMode {b : Byte} {s t : State} {o : OutcomeCode} (h : linkReady s) (hop : powerModeOp b s = (t, o)) :
    exec (.powerMode .system b) s = .next (replied o [] t) := by
  have on : (powerModeOp b s).1.power ≠ .off := mt (powerModeOp_on s b).1 h.1
  have ran := runLink_ready [0x61, b] (fun u => noData (powerModeOp b u)) h on
  rw [hop] at ran
  exact congrArg Host.Outcome.next ran

end Sys2Proof.Safety

open Sys2Proof Sys2Proof.Machine Sys2Proof.Safety

/-- Settles O51: each request as one update. -/
theorem systemRequestResults : Obligations.SystemRequestResults := by
  intro b s hs
  refine ⟨?_, ?_, fun hb => ?_, fun hb => ?_, fun hb => ?_⟩
  · exact next_runLink [0x3A] hs (silenceOp_power s) (congrArg noData (silenceOp_eq s))
  · have op : batteryOp b s = if 2 < b.toNat then refuse .range s
        else (if sentBattery b = s.battery then s else changeBattery (sentBattery b) s, .ok) := by
      unfold batteryOp
      rw [batteryOf_eq]
      by_cases hb : 2 < b.toNat
      · rw [if_pos hb, if_pos hb]
      · rw [if_neg hb, if_neg hb]
    have ran {t : State} {o : OutcomeCode} (h : batteryOp b s = (t, o)) :
        exec (.battery .system b) s = .next (replied o [] t) :=
      next_runLink [0x60, b] hs (batteryOp_power b s) (congrArg noData h)
    by_cases hb : 2 < b.toNat
    · rw [if_pos hb] at op
      exact (ran op).trans (congrArg _ (if_pos hb).symm)
    · rw [if_neg hb] at op
      by_cases same : sentBattery b = s.battery
      · rw [if_pos same] at op
        exact (ran op).trans (congrArg _ ((if_neg hb).trans (if_pos same)).symm)
      · rw [if_neg same, changeBattery_eq hs.1, code_sentBattery hb] at op
        exact (ran op).trans (congrArg _ ((if_neg hb).trans (if_neg same)).symm)
  · have op := powerModeOp_eq b s
    rw [if_pos hb] at op
    exact exec_powerMode hs op
  · subst hb
    by_cases asleep : s.power = .sleep
    · have op : powerModeOp 0x01 s = (s, .ok) := (powerModeOp_eq 0x01 s).trans (by rw [asleep]; rfl)
      exact (exec_powerMode hs op).trans (congrArg _ (if_pos asleep).symm)
    · have awake : s.power = .active := by cases h : s.power <;> simp_all
      have op : powerModeOp 0x01 s = (enterSleep s, .ok) := (powerModeOp_eq 0x01 s).trans (by rw [awake]; rfl)
      rw [enterSleep_eq] at op
      exact (exec_powerMode hs op).trans (congrArg _ (if_neg asleep).symm)
  · subst hb
    by_cases awake : s.power = .active
    · have op : powerModeOp 0x00 s = (s, .ok) := (powerModeOp_eq 0x00 s).trans (by rw [awake]; rfl)
      exact (exec_powerMode hs op).trans (congrArg _ (if_pos awake).symm)
    · have asleep : s.power = .sleep := by cases h : s.power <;> simp_all
      have op : powerModeOp 0x00 s = (enterActive s, .ok) := (powerModeOp_eq 0x00 s).trans (by rw [asleep]; rfl)
      rw [enterActive_eq] at op
      exact (exec_powerMode hs op).trans (congrArg _ (if_neg awake).symm)

end

section
/-! Every step keeps voices, stream ring and Mixer sound (R90, R91, R108, R111, R113, R121, R125, R130, R132): what each
operation of the three blocks does to their records, and everything else by what it leaves of them. -/

namespace Sys2Proof.Safety

open Sys2Proof.Machine

/-! ### The records of the three blocks -/

/-- What the invariants of voices, ring and Mixer read. -/
def sounds (s : State) : PowerState × Vector TableVoice 5 × StreamVoice × RingRecord × MixerRecord :=
  (s.power, s.voices, s.voice5, s.ring, s.mixer)

theorem sounds_gameSideReset (s : State) : sounds (gameSideReset s) = sounds (mainAtPowerUp s.power s) := by
  simp only [sounds, gameSideReset, resetRumble, resetMixer, resetRing, resetVoices, mainAtPowerUp]

/-- `P` reads the sound records alone, holds of their power-up values, and is kept by every operation of the three blocks. -/
structure KeptBySounds (P : State → Prop) : Prop where
  congr : ∀ {s t}, sounds t = sounds s → P s → P t
  powerUp : ∀ p s, P (mainAtPowerUp p s)
  voiceSet : ∀ b c st l f s, P s → P (voiceSetOp b c st l f s).1
  voiceStart : ∀ m s, s.power ≠ .off → P s → P (voiceStartOp m s).1
  voiceStop : ∀ m s, P s → P (voiceStopOp m s).1
  voicePitch : ∀ b d t s, P s → P (voicePitchOp b d t s).1
  voiceLevel : ∀ b v d p s, P s → P (voiceLevelOp b v d p s).1
  ringSet : ∀ b s, P s → P (ringSetOp b s).1
  ringFlush : ∀ s, P s → P (ringFlushOp s).1
  mixSet : ∀ v m e s, P s → P (mixSetOp v m e s).1
  clipClear : ∀ s, P s → P (clipClearOp s).1
  ringWrite : ∀ b s, P s → P (ringWrite b s)
  silence : ∀ s, P s → P (silenceOp s).1
  sleep : ∀ s, s.power = .active → P s → P (enterSleep s)
  active : ∀ s, s.power = .sleep → P s → P (enterActive s)
  voice : ∀ v s, P s → P (voiceExpiry v s)
  stream : ∀ s, P s → P (streamExpiry s)
  envelope : ∀ v s, P s → P (envelopeExpiry v s)
  envelopeFrame : ∀ v s, P s → P (envelopeFrame v s)
  mixFrame : ∀ s, P s → P (mixFrame s)
  voiceClock : ∀ v s, P s → P (voiceClock s v)
  streamClock : ∀ s, P s → P (streamClock s)

namespace KeptBySounds

variable {P : State → Prop} (h : KeptBySounds P) {s : State}
include h

/-- An operation whose view of the state shows the sound records keeps `P`. -/
theorem ofView {t : State} {view : State → State} (hs : P s) (e : view t = view s)
    (hv : ∀ u, sounds (view u) = sounds u) : P t :=
  h.congr ((hv t).symm.trans ((congrArg sounds e).trans (hv s))) hs

theorem busEffect (i : Instr) (hp : s.power ≠ .off) (hs : P s) : P (busEffect i s).1 := by
  have kept {view : State → State} (hv : ∀ u, sounds (view u) = sounds u)
      (e : view (Machine.busEffect i s).1 = view s) : P (Machine.busEffect i s).1 := h.ofView hs e hv
  cases i with
  | select | entry | statusClear | eventAck | eventAckLost | eventMask | lineEnable =>
    exact kept (view := outsideBus) (fun _ => rfl) (by simp [Machine.busEffect])
  | openTxn | commit | abort | erase | verify =>
    exact kept (view := outsideStore) (fun _ => rfl) (by simp [Machine.busEffect])
  | dayStart r hour minute =>
    rw [Machine.busEffect, dayStartOp_eq]
    split
    · exact h.congr (s := s) rfl hs
    · exact hs
  | catchUpLimit | rebase => exact h.congr (s := s) rfl hs
  | alarmArm | alarmDisarm => exact kept (view := outsideAlarms) (fun _ => rfl) (by simp [Machine.busEffect])
  | voiceSet => exact h.voiceSet _ _ _ _ _ s hs
  | voiceStart => exact h.voiceStart _ s hp hs
  | voiceStop => exact h.voiceStop _ s hs
  | voicePitch => exact h.voicePitch _ _ _ s hs
  | voiceLevel => exact h.voiceLevel _ _ _ _ s hs
  | waveLayout r b =>
    rw [Machine.busEffect, waveLayoutOp_eq]
    split
    · exact hs
    · exact h.congr (s := s) rfl hs
  | ringSet => exact h.ringSet _ s hs
  | ringFlush => exact h.ringFlush s hs
  | mixSet => exact h.mixSet _ _ _ s hs
  | clipClear => exact h.clipClear s hs
  | rumbleDirect | rumblePattern | rumbleLink | rumbleStop | rumbleLimit =>
    exact kept (view := outsideDriver) (fun _ => rfl) (by simp [Machine.busEffect])
  | _ => exact hs

theorem powerModeOp (m : Byte) (hs : P s) : P (powerModeOp m s).1 := by
  unfold Machine.powerModeOp
  repeat' split
  · exact hs
  · next hp => exact h.sleep s hp hs
  · exact hs
  · next hp => exact h.active s hp hs
  · exact hs

theorem batteryOp (b : Byte) (hs : P s) : P (batteryOp b s).1 := by
  have posted (k : EventKind) (d : Byte) {t : State} (ht : P t) : P (postGame k d t) := by
    rw [postGame_eq]
    exact h.congr (s := t) rfl ht
  have formed (c : BatteryState) : P (formLevel { s with battery := c }) := h.congr (s := s) rfl hs
  unfold Machine.batteryOp changeBattery
  repeat' split
  · exact hs
  · exact hs
  · exact posted _ _ (posted _ _ (formed _))
  · exact posted _ _ (formed _)

theorem linkEffect (i : Instr) (hs : P s) : P (linkEffect i s).1 := by
  have kept {view : State → State} (hv : ∀ u, sounds (view u) = sounds u)
      (e : view (Machine.linkEffect i s).1 = view s) : P (Machine.linkEffect i s).1 := h.ofView hs e hv
  cases i with
  | hold | release => exact kept (view := outsideStore) (fun _ => rfl) (by simp [Machine.linkEffect, noData])
  | slotRead | readRecord | eventAck | eventAckLost | eventMask | lineEnable =>
    exact kept (view := outsideLink) (fun _ => rfl) (by simp [Machine.linkEffect, noData])
  | clockSet => exact kept (view := outsideCalendar) (fun _ => rfl) (by simp [Machine.linkEffect, noData])
  | alarmArm | alarmDisarm => exact kept (view := outsideAlarms) (fun _ => rfl) (by simp [Machine.linkEffect, noData])
  | silence => exact h.silence s hs
  | battery _ b => exact h.batteryOp b hs
  | powerMode _ m => exact h.powerModeOp m hs
  | _ => exact hs

theorem targetWrite (b : Byte) (hs : P s) : P (targetWrite b s) := by
  have refused (o : OutcomeCode) : P (refuseAccess o s) := h.ofView hs (outsideBus_refuseAccess s o) fun _ => rfl
  unfold Machine.targetWrite stageWrite
  repeat' split
  any_goals exact refused _
  any_goals exact h.congr (s := s) rfl hs
  exact h.ringWrite b s hs

theorem onBus : KeptOnBus (fun _ => True) P where
  port e hs := h.ofView hs e fun _ => rfl
  effect i _ hp _ hs := h.busEffect i hp hs
  write b _ _ hs := h.targetWrite b hs

theorem onLink : KeptOnLink P where
  side e hs := h.ofView hs e fun _ => rfl
  effect i _ _ hs := h.linkEffect i hs

theorem frameArrivalOp (first : BitVec 6) (hs : P s) : P (frameArrivalOp first s) := by
  have counted : P (countFrame s) := h.congr (s := s) rfl hs
  have framed (b : Bool) {t : State} (ht : P t) : P (envelopeFrames first b t) :=
    List.foldlRecOn _ _ ht fun u hu v _ => by
      split
      · exact h.envelopeFrame v u hu
      · exact hu
  unfold Machine.frameArrivalOp
  split
  · exact counted
  · exact framed _ (h.mixFrame _ (framed _ counted))

theorem engineClock (hs : P s) : P (engineClock s) :=
  h.streamClock _ (List.foldlRecOn _ _ hs fun t ht v _ => h.voiceClock v t ht)

theorem supplyRise (hs : P s) : P (supplyRise s) := by
  have posted (d : Byte) (t : State) : P (postBoth .wake d (mainAtPowerUp .active t)) :=
    h.ofView (h.powerUp .active t) (outsideStore_postBoth _ _ _) fun _ => rfl
  unfold Machine.supplyRise
  split
  · cases hk : s.retention
    · rw [startUp_of_kept hk]
      exact posted _ _
    · rw [startUp_of_lost hk]
      exact posted _ _
  · exact hs

theorem supplyFall (hs : P s) : P (supplyFall s) := by
  by_cases hp : s.power = .off
  · rwa [Machine.supplyFall, if_pos hp]
  · rw [supplyFall_eq hp]
    exact h.powerUp _ _

theorem busResetOp (hs : P s) : P (busResetOp s) := by
  by_cases hp : s.power = .off
  · rw [busResetOp_of_off hp]
    exact h.congr (s := s) rfl hs
  · have records (u : State) : P (gameSideReset u) := h.congr (sounds_gameSideReset u) (h.powerUp u.power u)
    rw [busResetOp_of_on hp]
    unfold grantAfterReset
    split
    · exact h.ofView (records _) (outsideStore_grantPending _) fun _ => rfl
    · exact records _

theorem arrivals : KeptByArrivals P where
  fall _ hs := h.supplyFall hs
  reset _ hs := h.busResetOp hs
  release s hs := h.congr (s := s) rfl hs
  loss s hs := by
    unfold retentionLossOp
    split
    · exact h.congr (s := s) rfl hs
    · exact hs
  second s hs :=
    have kept : sounds (secondArrivalOp s) = sounds s := (congrArg sounds (outsideCalendar_secondArrivalOp s) :)
    h.congr kept hs
  countdown e s hs := h.ofView hs (outsideAlarms_countdownExpiryOp s e) fun _ => rfl
  frame first _ hs := h.frameArrivalOp first hs
  voice v s hs := h.voice v s hs
  stream s hs := h.stream s hs
  envelope v s hs := h.envelope v s hs
  walk k s hs := h.ofView hs (outsideStore_walkPages s k) fun _ => rfl
  driver _ e hs := h.ofView hs e fun _ => rfl

theorem step {t : State} (hs : P s) (ht : step s = .next t) : P t :=
  kept_of_step h.onBus h.onLink h.arrivals (fun _ hs => h.supplyRise hs) (fun _ hs => h.engineClock hs)
    (fun s _ hs => h.congr (s := s) rfl hs) hs ht

end KeptBySounds

end Sys2Proof.Safety
end

section
/-! Every step keeps the voice records sound (R90, R91, R108). -/

namespace Sys2Proof.Safety

open Sys2Proof.Machine

/-! ### One record -/

/-- A table voice in its ranges, in power state `p`. -/
structure VoiceSound (p : PowerState) (x : TableVoice) : Prop where
  code : x.code ≤ 31
  start : x.start ≤ 255
  loopPosition : x.loopPosition ≤ 255
  position : x.position ≤ 63
  divider : dividerSound x.divider
  envelope : envelopeSound x.envelope
  stopped : x.state = .stopped → x.sample = 0x00
  playing : x.state = .playing → p = .active
  paused : x.state = .paused → p = .sleep

/-- Table voices and stream voice in their ranges, in power state `p`. -/
structure VoicesFine (p : PowerState) (w : Vector TableVoice 5) (x : StreamVoice) : Prop where
  tables : ∀ v : Fin 5, VoiceSound p w[v]
  divider : dividerSound x.divider
  envelope : envelopeSound x.envelope

theorem voicesSound_iff (s : State) : VoicesSound s ↔ VoicesFine s.power s.voices s.voice5 := by
  constructor
  · rintro ⟨tables, divider, envelope⟩
    refine ⟨fun v => ?_, divider, envelope⟩
    obtain ⟨code, start, loopPosition, position, divider, envelope, stopped, playing, paused⟩ := tables v
    exact ⟨code, start, loopPosition, position, divider, envelope, stopped, playing, paused⟩
  · rintro ⟨tables, divider, envelope⟩
    refine ⟨fun v => ?_, divider, envelope⟩
    obtain ⟨code, start, loopPosition, position, divider, envelope, stopped, playing, paused⟩ := tables v
    exact ⟨code, start, loopPosition, position, divider, envelope, stopped, playing, paused⟩

theorem dividerSound_reload {d : Divider} (h : dividerSound d) : dividerSound d.reload :=
  ⟨h.1, h.2.1, h.2.1.trans_le (Nat.min_le_right _ _)⟩

theorem dividerSound_countedDown {d : Divider} (h : dividerSound d) : dividerSound (countedDown d) :=
  ⟨h.1, h.2.1, (Nat.sub_le _ _).trans h.2.2⟩

theorem dividerSound_pitched {d : Divider} (h : dividerSound d) (x : Half) (tune : Byte) :
    dividerSound (d.pitched x tune) := ⟨Nat.min_le_right _ _, rfl, h.2.2⟩

/-- An envelope whose count begins anew. -/
theorem envelopeSound_restarted {e : Envelope} (hv : e.volume ≤ 15) (hp : e.period ≤ 7) (hc : e.count = 0) :
    envelopeSound e := by
  refine ⟨hv, hp, ?_⟩
  split
  · next active =>
    have period : 0 < e.period := (of_decide_eq_true active).1
    omega
  · exact hc

theorem envelopeSound_sent (vol dir per : Byte) : envelopeSound (sentEnvelope vol dir per) :=
  envelopeSound_restarted (Nat.min_le_right _ _) (Nat.min_le_right _ _) rfl

theorem envelopeSound_moved {e : Envelope} (h : envelopeSound e) : envelopeSound (movedEnvelope e) := by
  obtain ⟨volume, period, -⟩ := h
  refine envelopeSound_restarted ?_ period rfl
  unfold movedEnvelope
  dsimp only
  repeat' split
  all_goals omega

theorem envelopeSound_counted {e : Envelope} (h : envelopeSound e) (ha : e.active = true) (hd : moveIsDue e = false) :
    envelopeSound { e with count := e.count + 1 } := by
  obtain ⟨volume, period, count⟩ := h
  have due : ¬e.period * 512 ≤ e.count + 1 := of_decide_eq_false hd
  exact ⟨volume, period, (if_pos ha).symm ▸ Nat.lt_of_not_le due⟩

/-! ### One voice -/

section
variable {p : PowerState} {x : TableVoice}

theorem waveLength_range (l : Layout) (c : Nat) : 0 < waveLength l c ∧ waveLength l c ≤ 64 := by
  unfold waveLength
  split <;> decide

theorem position_mod_le (l : Layout) (c n : Nat) : n % waveLength l c ≤ 63 := by
  obtain ⟨pos, le⟩ := waveLength_range l c
  have := Nat.mod_lt n pos
  omega

theorem VoiceSound.withEnvelope (h : VoiceSound p x) {e : Envelope} (he : envelopeSound e) :
    VoiceSound p { x with envelope := e } :=
  { h with envelope := he }

theorem VoiceSound.withDivider (h : VoiceSound p x) {d : Divider} (hd : dividerSound d) :
    VoiceSound p { x with divider := d } :=
  { h with divider := hd }

theorem VoiceSound.stop (h : VoiceSound p x) : VoiceSound p x.stop :=
  { h with stopped := fun _ => rfl, playing := nofun, paused := nofun }

theorem VoiceSound.restart (h : VoiceSound p x) {s : State} (hs : s.power = p) (hp : p ≠ .off) :
    VoiceSound p (restartVoice s x) where
  code := h.code
  start := h.start
  loopPosition := h.loopPosition
  position := position_mod_le ..
  divider := dividerSound_reload h.divider
  envelope := envelopeSound_restarted h.envelope.1 h.envelope.2.1 rfl
  stopped e := by
    simp only [restartVoice] at e
    split at e <;> cases e
  playing e := by
    simp only [restartVoice, hs] at e
    cases p <;> simp_all
  paused e := by
    simp only [restartVoice, hs] at e
    cases p <;> simp_all

theorem VoiceSound.stepped (h : VoiceSound p x) (s : State) (hx : x.state = .playing) : VoiceSound p (steppedVoice s x) := by
  have reloaded := h.withDivider (dividerSound_reload h.divider)
  rcases steppedVoice_cases s x rfl rfl with ⟨inside, -, e⟩ | ⟨-, -, -, e⟩ | ⟨-, -, -, e⟩ <;> rw [e]
  · refine { reloaded with position := ?_, stopped := fun e => absurd (hx.symm.trans e) nofun }
    have := waveLength_range s.layout x.code
    dsimp only
    omega
  · exact { reloaded with position := position_mod_le .., stopped := fun e => absurd (hx.symm.trans e) nofun }
  · exact { reloaded with position := position_mod_le .., stopped := fun _ => rfl, playing := nofun, paused := nofun }

theorem VoiceSound.moved (h : VoiceSound p x) : VoiceSound p (movedVoice x) := by
  have moved := h.withEnvelope (envelopeSound_moved h.envelope)
  unfold movedVoice
  split
  · exact moved.stop
  · exact moved

theorem VoiceSound.afterFrame (h : VoiceSound p x) : VoiceSound p (voiceAfterFrame x) := by
  unfold voiceAfterFrame
  split
  · next runs =>
    split
    · exact h.moved
    · next due => exact h.withEnvelope (envelopeSound_counted h.envelope runs.2 (Bool.eq_false_iff.2 due))
  · exact h

theorem VoiceSound.clocked (h : VoiceSound p x) (s : State) : VoiceSound p (clockedVoice s x) := by
  unfold clockedVoice
  split
  · exact h
  · next hx =>
    split
    · exact h.stepped s (not_not.1 hx)
    · exact h.withDivider (dividerSound_countedDown h.divider)

end

/-! ### All voices -/

section
variable {p : PowerState} {w : Vector TableVoice 5} {x : StreamVoice}

theorem VoicesFine.map (h : VoicesFine p w x) {q : PowerState} {f : Fin 5 → TableVoice → TableVoice}
    (hf : ∀ v y, VoiceSound p y → VoiceSound q (f v y)) : VoicesFine q (Vector.ofFn fun v => f v w[v]) x :=
  ⟨fun v => by
    have get : (Vector.ofFn fun v => f v w[v])[v] = f v w[v] := Vector.getElem_ofFn v.isLt
    rw [get]
    exact hf v _ (h.tables v), h.divider, h.envelope⟩

theorem VoicesFine.set (h : VoicesFine p w x) (v : Fin 5) {y : TableVoice} (hy : VoiceSound p y) :
    VoicesFine p (w.set v.val y v.isLt) x := by
  refine ⟨fun u => ?_, h.divider, h.envelope⟩
  by_cases e : v = u
  · subst e
    have get : (w.set v.val y v.isLt)[v] = y := Vector.getElem_set_self v.isLt
    rwa [get]
  · have get : (w.set v.val y v.isLt)[u] = w[u] := Vector.getElem_set_ne v.isLt u.isLt fun h => e (Fin.ext h)
    rw [get]
    exact h.tables u

theorem VoicesFine.streamFrame (h : VoicesFine p w x) (running : Bool) : VoicesFine p w (streamAfterFrame running x) := by
  unfold streamAfterFrame
  split
  · next runs =>
    refine ⟨h.tables, h.divider, ?_⟩
    dsimp only
    split
    · exact envelopeSound_moved h.envelope
    · next due => exact envelopeSound_counted h.envelope runs.2 (Bool.eq_false_iff.2 due)
  · exact h

end

theorem voicesFine_initial (p : PowerState) : VoicesFine p (Vector.replicate 5 .initial) .initial where
  tables v := by
    have get : (Vector.replicate 5 TableVoice.initial)[v] = TableVoice.initial := Vector.getElem_replicate v.isLt
    rw [get]
    exact ⟨by decide, by decide, by decide, by decide, by decide, by decide, fun _ => rfl, nofun, nofun⟩
  divider := by decide
  envelope := by decide

theorem streamStep_frame (s : State) :
    streamStep s = { s with ring := (streamStep s).ring, gameEvents := (streamStep s).gameEvents } := by
  simp only [streamStep, postGame_eq]
  repeat' split
  all_goals rfl

/-- PLAYING voices paused, as the power state becomes SLEEP (R108). -/
theorem VoiceSound.paused_of_active {x : TableVoice} (h : VoiceSound .active x) :
    VoiceSound .sleep (if x.state = .playing then { x with state := .paused } else x) := by
  split
  · exact { h with stopped := nofun, playing := nofun, paused := fun _ => rfl }
  · next hx => exact { h with playing := fun e => absurd e hx, paused := fun e => absurd (h.paused e) (by decide) }

/-- PAUSED voices play again, as the power state becomes ACTIVE (R108). -/
theorem VoiceSound.resumed_of_sleep {x : TableVoice} (h : VoiceSound .sleep x) :
    VoiceSound .active (if x.state = .paused then { x with state := .playing } else x) := by
  split
  · exact { h with stopped := nofun, playing := fun _ => rfl, paused := nofun }
  · next hx => exact { h with playing := fun e => absurd (h.playing e) (by decide), paused := fun e => absurd e hx }

/-- The voices of a state are sound. -/
def voicesKept (s : State) : Prop := VoicesFine s.power s.voices s.voice5

theorem voicesKept_checked {checks : List (Bool × OutcomeCode)} {s t : State} (hs : voicesKept s) (ht : voicesKept t) :
    voicesKept (checked checks t s).1 := by
  unfold checked
  dsimp only
  split
  · exact ht
  · exact hs

theorem VoicesFine.ofNumber {p : PowerState} {w : Vector TableVoice 5} {x : StreamVoice} (h : VoicesFine p w x) (b : Byte)
    {f : TableVoice → TableVoice} (hf : ∀ y, VoiceSound p y → VoiceSound p (f y)) :
    VoicesFine p (Vector.ofFn fun v : Fin 5 => if v.val = b.toNat then f w[v] else w[v]) x :=
  h.map (f := fun v y => if v.val = b.toNat then f y else y) fun v y hy => by
    split
    · exact hf y hy
    · exact hy

theorem voicesKept_streamExpiry {s : State} (h : voicesKept s) : voicesKept (streamExpiry s) := by
  unfold streamExpiry
  split
  · rw [streamStep_frame]
    exact ⟨h.tables, dividerSound_reload h.divider, h.envelope⟩
  · exact h

theorem voicesKept_sounds : KeptBySounds voicesKept where
  congr {s t} e h := by
    simp only [sounds, Prod.mk.injEq] at e
    obtain ⟨power, voices, voice5, -, -⟩ := e
    rw [voicesKept, power, voices, voice5]
    exact h
  powerUp p _ := voicesFine_initial p
  voiceSet b c st l f s h := by
    rw [voiceSetOp_eq]
    by_cases hc : c.toNat ≤ 31
    · have byte (x : Byte) : x.toNat ≤ 255 := Nat.le_of_lt_succ x.isLt
      have set : VoicesFine s.power _ s.voice5 := h.ofNumber b
        (f := fun y => { y with
          code := c.toNat, start := st.toNat, loopPosition := l.toNat, loop := f.getLsbD 0, stopAtZero := f.getLsbD 1 })
        fun y hy => { hy with code := hc, start := byte st, loopPosition := byte l }
      exact voicesKept_checked h set
    · have refused : firstOutcome [(decide (5 ≤ b.toNat), .noSuch), (decide (32 ≤ c.toNat), .noSuch),
          (decide (3 < f.toNat), .range)] ≠ .ok := by
        rw [decide_eq_true (show 32 ≤ c.toNat from Nat.lt_of_not_le hc)]
        cases decide (5 ≤ b.toNat) <;> exact nofun
      rw [checked_of_refused refused]
      exact h
  voiceStart m s hp h := by
    rw [voiceStartOp_eq]
    have tables : VoicesFine s.power _ s.voice5 :=
      h.map (f := fun v y => if m.getLsbD v.val then restartVoice s y else y) fun v y hy => by
        split
        · exact hy.restart rfl hp
        · exact hy
    refine ⟨tables.tables, ?_, ?_⟩
    · dsimp only
      split
      · exact dividerSound_reload h.divider
      · exact h.divider
    · dsimp only
      split
      · exact envelopeSound_restarted h.envelope.1 h.envelope.2.1 rfl
      · exact h.envelope
  voiceStop m s h := by
    rw [voiceStopOp_eq]
    show VoicesFine s.power _ s.voice5
    exact h.map (f := fun v y => if m.getLsbD v.val then y.stop else y) fun v y hy => by
      split
      · exact hy.stop
      · exact hy
  voicePitch b d t s h := by
    rw [voicePitchOp_eq]
    split
    · exact h
    · refine ⟨(h.ofNumber b fun y hy => hy.withDivider (dividerSound_pitched hy.divider d t)).tables, ?_, ?_⟩ <;> dsimp only
      · split
        · exact dividerSound_pitched h.divider d t
        · exact h.divider
      · split <;> exact h.envelope
  voiceLevel b v d p s h := by
    rw [voiceLevelOp_eq]
    split
    · exact h
    · split
      · exact h
      · refine ⟨(h.ofNumber b fun y hy => hy.withEnvelope (envelopeSound_sent v d p)).tables, ?_, ?_⟩ <;> dsimp only
        · split <;> exact h.divider
        · split
          · exact envelopeSound_sent v d p
          · exact h.envelope
  ringSet _ _ h := h
  ringFlush _ h := h
  mixSet v m e s h := by
    unfold mixSetOp
    split <;> exact h
  clipClear _ h := h
  ringWrite b s h := by
    rw [ringWrite_frame]
    exact h
  silence s h := by
    rw [silenceOp_eq]
    exact h.map (f := fun _ y => y.stop) fun _ _ hy => hy.stop
  sleep s hp h := by
    rw [voicesKept, hp] at h
    rw [enterSleep_eq]
    exact h.map (f := fun _ y => if y.state = .playing then { y with state := .paused } else y) fun _ _ hy =>
      hy.paused_of_active
  active s hp h := by
    rw [voicesKept, hp] at h
    rw [enterActive_eq]
    exact h.map (f := fun _ y => if y.state = .paused then { y with state := .playing } else y) fun _ _ hy =>
      hy.resumed_of_sleep
  voice v s h := by
    rw [voiceExpiry_eq]
    split
    · next due => exact h.set v ((h.tables v).stepped s due.1)
    · exact h
  stream s h := voicesKept_streamExpiry h
  envelope v s h := by
    induction v using Fin.lastCases with
    | last =>
      rw [envelopeExpiry_last]
      split
      · exact ⟨h.tables, h.divider, envelopeSound_moved h.envelope⟩
      · exact h
    | cast v =>
      rw [envelopeExpiry_castSucc]
      split
      · exact h.set v (h.tables v).moved
      · exact h
  envelopeFrame v s h := by
    induction v using Fin.lastCases with
    | last =>
      rw [envelopeFrame_last]
      exact h.streamFrame s.ring.state.running
    | cast v =>
      rw [envelopeFrame_castSucc]
      exact h.set v (h.tables v).afterFrame
  mixFrame s h := by
    rw [mixFrame_eq]
    exact h
  voiceClock v s h := by
    rw [voiceClock_eq]
    exact h.set v ((h.tables v).clocked s)
  streamClock s h := by
    rw [streamClock_eq]
    repeat' split
    · exact h
    · exact voicesKept_streamExpiry h
    · exact ⟨h.tables, dividerSound_countedDown h.divider, h.envelope⟩

end Sys2Proof.Safety
end

section
/-! Every step keeps stream ring and Mixer sound (R111, R113, R121, R125, R130, R132), and with the voices all three. -/

namespace Sys2Proof.Safety

open Sys2Proof.Machine

/-! ### The ring record -/

/-- The ring record is sound in power state `p`. -/
structure RingFine (p : PowerState) (r : RingRecord) : Prop where
  play : r.play < 2048
  fill : r.fill = (r.play + r.level) % 2048
  level : r.level ≤ 2048
  lowMark : r.lowMark % 64 = 0 ∧ r.lowMark ≤ 1984
  overrun : r.overrun ≤ 255
  waiting : StreamState.waiting r.state = true → r.level < 256
  running : r.state.running = true → p = .active
  paused : StreamState.isPaused r.state = true → p = .sleep
  idle : r.state = .idle → r.held = 0x00

theorem ringSound_iff (s : State) : RingSound s ↔ RingFine s.power s.ring := by
  constructor
  · rintro ⟨play, fill, level, multiple, top, overrun, waiting, running, paused, idle⟩
    exact ⟨play, fill, level, ⟨multiple, top⟩, overrun, waiting, running, paused, idle⟩
  · rintro ⟨play, fill, level, ⟨multiple, top⟩, overrun, waiting, running, paused, idle⟩
    exact ⟨play, fill, level, multiple, top, overrun, waiting, running, paused, idle⟩

section
variable {p : PowerState} {r : RingRecord}

/-- The stream stopped, with held sample 0 (R119, R122). -/
theorem RingFine.stopped (h : RingFine p r) : RingFine p { r with state := .idle, held := 0x00 } :=
  { h with waiting := nofun, running := nofun, paused := nofun, idle := fun _ => rfl }

/-- The unplayed bytes discarded (R120, R122). -/
theorem RingFine.flushed (h : RingFine p r) : RingFine p r.flush where
  play := by
    have := h.fill
    simp only [RingRecord.flush]
    omega
  fill := by
    have := h.fill
    simp only [RingRecord.flush]
    omega
  level := Nat.zero_le _
  lowMark := h.lowMark
  overrun := Nat.zero_le _
  waiting _ := by
    simp only [RingRecord.flush]
    omega
  running := h.running
  paused := h.paused
  idle := h.idle

theorem running_flushed (x : StreamState) : x.flushed.running = x.running := by cases x <;> rfl
theorem isPaused_flushed (x : StreamState) : StreamState.isPaused x.flushed = StreamState.isPaused x := by cases x <;> rfl

theorem flushed_idle {x : StreamState} (h : x.flushed = .idle) : x = .idle := by
  cases x with
  | idle => rfl
  | run => cases h
  | paused => cases h

theorem RingFine.flush (h : RingFine p r) : RingFine p { r.flush with state := r.state.flushed } :=
  { h.flushed with
    waiting := fun _ => show 0 < 256 by decide
    running := fun e => h.running ((running_flushed _).symm.trans e)
    paused := fun e => h.paused ((isPaused_flushed _).symm.trans e)
    idle := fun e => h.idle (flushed_idle e) }

theorem running_filledTo (x : StreamState) (n : Nat) : (x.filledTo n).running = x.running := by cases x <;> rfl

theorem isPaused_filledTo (x : StreamState) (n : Nat) :
    StreamState.isPaused (x.filledTo n) = StreamState.isPaused x := by cases x <;> rfl

theorem filledTo_idle {x : StreamState} {n : Nat} (h : x.filledTo n = .idle) : x = .idle := by
  cases x with
  | idle => rfl
  | run => cases h
  | paused => cases h

/-- A stream that still waits after a write waited before it, and not for this byte (R115). -/
theorem waiting_filledTo {x : StreamState} {n : Nat} (h : StreamState.waiting (x.filledTo n) = true) :
    StreamState.waiting x = true ∧ n ≠ 256 := by
  have run (r : StreamRun) (hr : r.filledTo n ≠ .playing) : r.filledTo n = r ∧ n ≠ 256 := by
    unfold StreamRun.filledTo at hr ⊢
    split at hr
    · exact absurd rfl hr
    · next e => exact ⟨if_neg e, e⟩
  cases x with
  | idle => cases h
  | run r =>
    obtain ⟨same, ne⟩ := run r fun e => by rw [StreamState.filledTo, e] at h; cases h
    exact ⟨by rwa [StreamState.filledTo, same] at h, ne⟩
  | paused r =>
    obtain ⟨same, ne⟩ := run r fun e => by rw [StreamState.filledTo, e] at h; cases h
    exact ⟨by rwa [StreamState.filledTo, same] at h, ne⟩

/-- A byte stored (R115). -/
theorem RingFine.stored (h : RingFine p r) (hr : r.level < 2048) : RingFine p { r with
    fill := (r.fill + 1) % 2048, level := r.level + 1, state := r.state.filledTo (r.level + 1) } :=
  { h with
    fill := by
      have := h.fill
      dsimp only
      omega
    level := hr
    waiting := fun w => by
      obtain ⟨waits, ne⟩ := waiting_filledTo w
      have := h.waiting waits
      dsimp only
      omega
    running := fun e => h.running ((running_filledTo _ _).symm.trans e)
    paused := fun e => h.paused ((isPaused_filledTo _ _).symm.trans e)
    idle := fun e => h.idle (filledTo_idle e) }

/-- Voice 5 started (R118). -/
theorem RingFine.started (h : RingFine p r) (hp : p ≠ .off) : RingFine p { r with
    state := if p = .sleep then .paused (primedAt r.level) else .run (primedAt r.level)
    held := if r.state = .idle then 0x00 else r.held } := by
  have waits (e : primedAt r.level ≠ .playing) : r.level < 256 :=
    Nat.lt_of_not_le fun le => e (if_pos le)
  cases p with
  | off => exact absurd rfl hp
  | active =>
    refine { h with waiting := fun w => waits fun e => ?_, running := fun _ => rfl, paused := nofun, idle := nofun }
    simp [e, StreamState.waiting] at w
  | sleep =>
    refine { h with waiting := fun w => waits fun e => ?_, running := nofun, paused := fun _ => rfl, idle := nofun }
    simp [e, StreamState.waiting] at w

/-- A PLAYING stream with no byte starves (R116). -/
theorem RingFine.starved (h : RingFine p r) (hs : r.state = .run .playing) (hl : r.level = 0) :
    RingFine p { r with state := .run .starved } :=
  { h with
    waiting := fun _ => by
      dsimp only
      omega
    running := fun _ => h.running (by rw [hs]; rfl), paused := nofun, idle := nofun }

/-- A PLAYING stream takes a byte (R116). -/
theorem RingFine.taken (h : RingFine p r) (hs : r.state = .run .playing) (hl : r.level ≠ 0) (b : Byte) :
    RingFine p { r with held := b, play := (r.play + 1) % 2048, level := r.level - 1 } :=
  { h with
    play := Nat.mod_lt _ (by decide)
    fill := by
      have := h.fill
      dsimp only
      omega
    level := by
      have := h.level
      dsimp only
      omega
    waiting := fun w => by
      rw [hs] at w
      cases w
    idle := fun e => absurd (hs.symm.trans e) nofun }

/-- The stream paused, as the power state becomes SLEEP (R121). -/
theorem RingFine.pause (h : RingFine .active r) : RingFine .sleep { r with state := StreamState.pause r.state } := by
  obtain ⟨play, fill, level, lowMark, overrun, waiting, running, paused, idle⟩ := h
  cases hs : r.state <;> rw [hs] at waiting running paused idle
  · exact ⟨play, fill, level, lowMark, overrun, nofun, nofun, nofun, idle⟩
  · next x =>
    refine ⟨play, fill, level, lowMark, overrun, fun w => waiting ?_, nofun, fun _ => rfl, nofun⟩
    cases x with
    | priming => rfl
    | playing => cases w
    | starved => rfl
  · exact absurd (paused rfl) (by decide)

/-- The stream resumed, as the power state becomes ACTIVE (R121). -/
theorem RingFine.resume (h : RingFine .sleep r) : RingFine .active { r with state := StreamState.resume r.state } := by
  obtain ⟨play, fill, level, lowMark, overrun, waiting, running, paused, idle⟩ := h
  cases hs : r.state <;> rw [hs] at waiting running paused idle
  · exact ⟨play, fill, level, lowMark, overrun, nofun, nofun, nofun, idle⟩
  · exact absurd (running rfl) (by decide)
  · next x =>
    refine ⟨play, fill, level, lowMark, overrun, fun w => waiting ?_, fun _ => rfl, nofun, nofun⟩
    cases x with
    | priming => rfl
    | playing => cases w
    | starved => rfl

end

theorem ringFine_initial (p : PowerState) : RingFine p .initial :=
  ⟨by decide, by decide, by decide, by decide, by decide, nofun, nofun, nofun, fun _ => rfl⟩

/-- The ring of a state is sound. -/
def ringKept (s : State) : Prop := RingFine s.power s.ring

theorem ringKept_streamExpiry {s : State} (h : ringKept s) : ringKept (streamExpiry s) := by
  unfold streamExpiry
  split
  · unfold streamStep
    dsimp only
    split
    · next hs =>
      split
      · next hl =>
        rw [postGame_eq]
        exact RingFine.starved h hs hl
      · next hl =>
        have taken := RingFine.taken h hs hl (Memory.read Config.unwrittenRing s.ringMem s.ring.play)
        split
        · rw [postGame_eq]
          exact taken
        · exact taken
    · exact h
  · exact h

theorem ringKept_sounds : KeptBySounds ringKept where
  congr {s t} e h := by
    simp only [sounds, Prod.mk.injEq] at e
    obtain ⟨power, -, -, ring, -⟩ := e
    rw [ringKept, power, ring]
    exact h
  powerUp p _ := ringFine_initial p
  voiceSet b c st l f s h := by
    rw [voiceSetOp_eq]
    unfold checked
    dsimp only
    split <;> exact h
  voiceStart m s hp h := by
    rw [voiceStartOp_eq]
    cases m.getLsbD 5
    · exact h
    · exact RingFine.started h hp
  voiceStop m s h := by
    rw [voiceStopOp_eq]
    cases m.getLsbD 5
    · exact h
    · exact RingFine.stopped h
  voicePitch b d t s h := by
    rw [voicePitchOp_eq]
    split <;> exact h
  voiceLevel b v d p s h := by
    rw [voiceLevelOp_eq]
    split
    · exact h
    · split <;> exact h
  ringSet b s h := by
    rw [ringSetOp_eq]
    refine { h with lowMark := ⟨Nat.mul_mod_right 64 _, ?_⟩ }
    dsimp only
    omega
  ringFlush s h := RingFine.flush h
  mixSet v m e s h := by
    unfold mixSetOp
    split <;> exact h
  clipClear _ h := h
  ringWrite b s h := by
    rcases Nat.lt_or_ge s.ring.level 2048 with hr | hr
    · rw [ringWrite_of_room b hr]
      exact RingFine.stored h hr
    · rw [ringWrite_of_full b hr]
      exact { h with overrun := Nat.min_le_right _ _ }
  silence s h := RingFine.stopped (RingFine.flushed h)
  sleep s hp h := by
    rw [ringKept, hp] at h
    rw [enterSleep_eq]
    exact h.pause
  active s hp h := by
    rw [ringKept, hp] at h
    rw [enterActive_eq]
    exact h.resume
  voice v s h := by
    rw [voiceExpiry_eq]
    split <;> exact h
  stream s h := ringKept_streamExpiry h
  envelope v s h := by
    induction v using Fin.lastCases with
    | last =>
      rw [envelopeExpiry_last]
      split <;> exact h
    | cast v =>
      rw [envelopeExpiry_castSucc]
      split <;> exact h
  envelopeFrame v s h := by
    induction v using Fin.lastCases with
    | last =>
      rw [envelopeFrame_last]
      exact h
    | cast v =>
      rw [envelopeFrame_castSucc]
      exact h
  mixFrame s h := by
    rw [mixFrame_eq]
    exact h
  voiceClock v s h := by
    rw [voiceClock_eq]
    exact h
  streamClock s h := by
    rw [streamClock_eq]
    repeat' split
    · exact h
    · exact ringKept_streamExpiry h
    · exact h

/-! ### The mixer record -/

/-- The mixer record is sound in power state `p`. -/
structure MixerFine (p : PowerState) (m : MixerRecord) : Prop where
  master : m.master ≤ 63
  me : m.me ≤ 63
  dac : m.dac ≤ 1023
  held : m.enabled = false ∨ p ≠ .active → m.dac = 512

theorem mixerSound_iff (s : State) : MixerSound s ↔ MixerFine s.power s.mixer :=
  ⟨fun ⟨master, me, dac, held⟩ => ⟨master, me, dac, held⟩, fun ⟨master, me, dac, held⟩ => ⟨master, me, dac, held⟩⟩

theorem mixerFine_initial (p : PowerState) : MixerFine p .initial := ⟨by decide, by decide, by decide, fun _ => rfl⟩

/-- The mixer of a state is sound. -/
def mixerKept (s : State) : Prop := MixerFine s.power s.mixer

/-- A record with the DAC code at 512 (R132). -/
theorem MixerFine.silent {p q : PowerState} {m : MixerRecord} (h : MixerFine p m) : MixerFine q { m with dac := 512 } :=
  { h with dac := show 512 ≤ 1023 by decide, held := fun _ => rfl }

theorem MixerFine.mixed {s : State} (h : mixerKept s) : MixerFine s.power (mixedRecord s) := by
  unfold mixedRecord
  split
  · next computed =>
    obtain ⟨active, enabled⟩ := of_decide_eq_true computed
    refine ⟨h.master, (Nat.min_le_left _ _).trans h.master, ?_, fun idle => ?_⟩
    · dsimp only
      omega
    · exact absurd idle (by simp [active, enabled])
  · exact MixerFine.silent h

theorem mixerKept_mixSetOp {s : State} (h : mixerKept s) (v m e : Byte) : mixerKept (mixSetOp v m e s).1 := by
  unfold mixSetOp
  split
  · next nearest on _ _ =>
    cases on
    · exact ⟨Nat.min_le_right _ _, h.me, show 512 ≤ 1023 by decide, fun _ => rfl⟩
    · exact ⟨Nat.min_le_right _ _, h.me, h.dac, fun idle => h.held (.inr (idle.resolve_left nofun))⟩
  · exact h

theorem mixerKept_streamExpiry {s : State} (h : mixerKept s) : mixerKept (streamExpiry s) := by
  unfold streamExpiry
  split
  · rw [streamStep_frame]
    exact h
  · exact h

theorem mixerKept_sounds : KeptBySounds mixerKept where
  congr {s t} e h := by
    simp only [sounds, Prod.mk.injEq] at e
    obtain ⟨power, -, -, -, mixer⟩ := e
    rw [mixerKept, power, mixer]
    exact h
  powerUp p _ := mixerFine_initial p
  voiceSet b c st l f s h := by
    rw [voiceSetOp_eq]
    unfold checked
    dsimp only
    split <;> exact h
  voiceStart m s _ h := by
    rw [voiceStartOp_eq]
    exact h
  voiceStop m s h := by
    rw [voiceStopOp_eq]
    exact h
  voicePitch b d t s h := by
    rw [voicePitchOp_eq]
    split <;> exact h
  voiceLevel b v d p s h := by
    rw [voiceLevelOp_eq]
    split
    · exact h
    · split <;> exact h
  ringSet _ _ h := h
  ringFlush _ h := h
  mixSet v m e s h := mixerKept_mixSetOp h v m e
  clipClear _ h := { h with }
  ringWrite b s h := by
    rw [ringWrite_frame]
    exact h
  silence s h := h
  sleep s _ h := by
    rw [enterSleep_eq]
    exact MixerFine.silent h
  active s hp h := by
    have held := h.held (.inr (by rw [hp]; decide))
    rw [enterActive_eq]
    exact { h with held := fun _ => held }
  voice v s h := by
    rw [voiceExpiry_eq]
    split <;> exact h
  stream s h := mixerKept_streamExpiry h
  envelope v s h := by
    induction v using Fin.lastCases with
    | last =>
      rw [envelopeExpiry_last]
      split <;> exact h
    | cast v =>
      rw [envelopeExpiry_castSucc]
      split <;> exact h
  envelopeFrame v s h := by
    induction v using Fin.lastCases with
    | last =>
      rw [envelopeFrame_last]
      exact h
    | cast v =>
      rw [envelopeFrame_castSucc]
      exact h
  mixFrame s h := by
    rw [mixFrame_eq]
    exact MixerFine.mixed h
  voiceClock v s h := by
    rw [voiceClock_eq]
    exact h
  streamClock s h := by
    rw [streamClock_eq]
    repeat' split
    · exact h
    · exact mixerKept_streamExpiry h
    · exact h

end Sys2Proof.Safety

open Sys2Proof Sys2Proof.Machine Sys2Proof.Safety

/-- Settles O58: every operation of the three blocks keeps voices, ring and Mixer sound, each by itself. -/
theorem voicesRingAndMixerStaySound : Obligations.VoicesRingAndMixerStaySound := by
  constructor
  · intro s s' hv hstep
    exact (voicesSound_iff s').2 (voicesKept_sounds.step ((voicesSound_iff s).1 hv) hstep)
  · intro s s' hr hm hstep
    exact ⟨(ringSound_iff s').2 (ringKept_sounds.step ((ringSound_iff s).1 hr) hstep),
      (mixerSound_iff s').2 (mixerKept_sounds.step ((mixerSound_iff s).1 hm) hstep)⟩

end

section
/-! What each master cannot change (R42, R182): what every strobe of the main bus, and every arrival on the side link, leaves
as it was. -/

namespace Sys2Proof.Safety

open Sys2Proof.Machine

/-! ### The main bus -/

/-- What no strobe of the main bus can change: clock, calendar state, setting record, crystal, the supply's records, the side
link and the RESET pin. -/
def beyondGame (s : State) : ClockRecord × CalendarState × SettingRecord × Nat
    × PowerState × BatteryState × Retention × WakeNote × SideLink × Bool :=
  (s.clock, s.calendar, s.setting, s.crystal, s.power, s.battery, s.retention, s.wake, s.side, s.resetPin)

theorem beyondGame_busEffect (i : Instr) (s : State) : beyondGame (busEffect i s).1 = beyondGame s := by
  have kept {view : State → State} (hv : ∀ u, beyondGame (view u) = beyondGame u)
      (e : view (busEffect i s).1 = view s) : beyondGame (busEffect i s).1 = beyondGame s :=
    (hv _).symm.trans ((congrArg beyondGame e).trans (hv s))
  cases i with
  | select | entry | statusClear | eventAck | eventAckLost | eventMask | lineEnable =>
    exact kept (view := outsideBus) (fun _ => rfl) (by simp [busEffect])
  | openTxn | commit | abort | erase | verify => exact kept (view := outsideStore) (fun _ => rfl) (by simp [busEffect])
  | dayStart r hour minute =>
    rw [busEffect, dayStartOp_eq]
    split <;> rfl
  | alarmArm | alarmDisarm => exact kept (view := outsideAlarms) (fun _ => rfl) (by simp [busEffect])
  | voiceSet | voiceStart | voiceStop | voicePitch | voiceLevel | waveLayout | ringSet | ringFlush | mixSet | clipClear =>
    exact kept (view := outsideSound) (fun _ => rfl) (by simp [busEffect])
  | rumbleDirect | rumblePattern | rumbleLink | rumbleStop | rumbleLimit =>
    exact kept (view := outsideDriver) (fun _ => rfl) (by simp [busEffect])
  | _ => rfl

theorem beyondGame_targetWrite (b : Byte) (s : State) : beyondGame (targetWrite b s) = beyondGame s := by
  have refused (o : OutcomeCode) : beyondGame (refuseAccess o s) = beyondGame s :=
    (congrArg beyondGame (outsideBus_refuseAccess s o) :)
  unfold targetWrite stageWrite
  repeat' split
  any_goals exact refused _
  any_goals rfl
  rw [ringWrite_frame]
  rfl

theorem beyondGame_bus (s : State) : KeptOnBus (fun _ => True) fun t => beyondGame t = beyondGame s where
  port h hs := (congrArg beyondGame h :).trans hs
  effect i t _ _ hs := (beyondGame_busEffect i t).trans hs
  write b t _ hs := (beyondGame_targetWrite b t).trans hs

theorem beyondGame_strobe {c : Instr} {s t : State} (hc : isBusStrobe c = true) (ht : exec c s = .next t) :
    beyondGame t = beyondGame s :=
  (beyondGame_bus s).strobe hc (fun _ _ => trivial) rfl ht

/-! ### The held store -/

/-- The store as a hold takes it out of the game's reach (R42). -/
def store (s : State) : Vector (Option SlotData) 8 × List Page × Memory × Option Txn × StoreNote × WalkRecord × HoldRecord :=
  (s.slots, s.pool, s.pages, s.txn, s.note, s.walk, s.hold)

theorem store_busEffect_of_held {s : State} (hh : storeHeld s = true) (i : Instr) : store (busEffect i s).1 = store s := by
  have kept {view : State → State} (hv : ∀ u, store (view u) = store u)
      (e : view (busEffect i s).1 = view s) : store (busEffect i s).1 = store s :=
    (hv _).symm.trans ((congrArg store e).trans (hv s))
  have refused {x : Result} (e : x = refuse .held s) : store x.1 = store s := by rw [e]; rfl
  cases i with
  | select | entry | statusClear | eventAck | eventAckLost | eventMask | lineEnable =>
    exact kept (view := outsideBus) (fun _ => rfl) (by simp [busEffect])
  | openTxn => exact refused (if_pos hh)
  | commit => exact refused (if_pos hh)
  | abort => exact refused (if_pos hh)
  | erase => exact refused (if_pos hh)
  | verify => exact refused (if_pos hh)
  | dayStart r hour minute =>
    rw [busEffect, dayStartOp_eq]
    split <;> rfl
  | alarmArm | alarmDisarm => exact kept (view := outsideAlarms) (fun _ => rfl) (by simp [busEffect])
  | voiceSet | voiceStart | voiceStop | voicePitch | voiceLevel | waveLayout | ringSet | ringFlush | mixSet | clipClear =>
    exact kept (view := outsideSound) (fun _ => rfl) (by simp [busEffect])
  | rumbleDirect | rumblePattern | rumbleLink | rumbleStop | rumbleLimit =>
    exact kept (view := outsideDriver) (fun _ => rfl) (by simp [busEffect])
  | _ => rfl

theorem store_targetWrite_of_held {s : State} (hh : storeHeld s = true) (b : Byte) : store (targetWrite b s) = store s := by
  have refused (o : OutcomeCode) : store (refuseAccess o s) = store s :=
    (congrArg store (outsideBus_refuseAccess s o) :)
  have stage : stageWrite b s = refuseAccess .held s := if_pos hh
  unfold targetWrite
  rw [stage]
  split
  any_goals exact refused _
  any_goals rfl
  rw [ringWrite_frame]
  rfl

theorem storeHeld_congr {s t : State} (h : store t = store s) : storeHeld t = storeHeld s := by
  have hold : t.hold = s.hold := congrArg (fun x => x.2.2.2.2.2.2) h
  rw [storeHeld_eq, storeHeld_eq, hold]

theorem store_bus {s : State} (hh : storeHeld s = true) : KeptOnBus (fun _ => True) fun t => store t = store s where
  port h hs := (congrArg store h :).trans hs
  effect i _ _ _ hs := (store_busEffect_of_held ((storeHeld_congr hs).trans hh) i).trans hs
  write b _ _ hs := (store_targetWrite_of_held ((storeHeld_congr hs).trans hh) b).trans hs

/-! ### The side link -/

/-- What no arrival on the side link can change: the port, the game's memories, page bytes, day start and catch-up limit,
and of the supply what no request names. -/
def beyondSystem (s : State) : PortRecord × Byte × Memory × Memory × Layout × Memory × Memory × Nat × Nat × Nat
    × Retention × WakeNote × Nat × Bool :=
  (s.port, s.busData, s.waveMem, s.patternMem, s.layout, s.pages, s.ringMem, s.gameDay.startHour, s.gameDay.startMinute,
    s.gameDay.catchUp, s.retention, s.wake, s.crystal, s.resetPin)

theorem rollBack_pages (e : EndKind) (s : State) : (rollBack e s).pages = s.pages := by
  unfold rollBack
  split <;> rfl

theorem postBoth_pages (k : EventKind) (d : Byte) (s : State) : (postBoth k d s).pages = s.pages := by rw [postBoth_eq]

theorem rollBackWithFail_pages (e : EndKind) (s : State) : (rollBackWithFail e s).pages = s.pages := by
  unfold rollBackWithFail
  split
  · rfl
  · rw [postGame_eq]
    exact rollBack_pages e s

theorem holdOp_pages (m : Byte) (s : State) : (holdOp m s).1.pages = s.pages := by
  have granted (m : HoldMode) (t : State) : (grantHold m t).pages = t.pages := postBoth_pages ..
  have rolled := rollBackWithFail_pages .droppedByHold s
  unfold holdOp newHold upgradeHold
  dsimp only [refuse]
  repeat' split
  any_goals rfl
  any_goals exact granted _ s
  any_goals exact rolled
  all_goals exact (granted _ _).trans rolled

theorem releaseOp_pages (s : State) : (releaseOp s).1.pages = s.pages := by
  unfold releaseOp
  split
  · rfl
  · rfl
  · exact postBoth_pages ..

theorem beyondSystem_of_outsideStore {s t : State} (h : outsideStore t = outsideStore s) (hp : t.pages = s.pages) :
    beyondSystem t = beyondSystem s := by
  have store (u : State) : beyondSystem u = beyondSystem { outsideStore u with pages := u.pages } := rfl
  rw [store t, store s, h, hp]

theorem beyondSystem_linkEffect (i : Instr) (s : State) : beyondSystem (linkEffect i s).1 = beyondSystem s := by
  have kept {view : State → State} (hv : ∀ u, beyondSystem (view u) = beyondSystem u)
      (e : view (linkEffect i s).1 = view s) : beyondSystem (linkEffect i s).1 = beyondSystem s :=
    (hv _).symm.trans ((congrArg beyondSystem e).trans (hv s))
  cases i with
  | hold _ m => exact beyondSystem_of_outsideStore (outsideStore_holdOp s m) (holdOp_pages m s)
  | release => exact beyondSystem_of_outsideStore (outsideStore_releaseOp s) (releaseOp_pages s)
  | slotRead | readRecord | eventAck | eventAckLost | eventMask | lineEnable =>
    exact kept (view := outsideLink) (fun _ => rfl) (by simp [linkEffect, noData])
  | clockSet => exact kept (view := outsideCalendar) (fun _ => rfl) (by simp [linkEffect, noData])
  | alarmArm | alarmDisarm => exact kept (view := outsideAlarms) (fun _ => rfl) (by simp [linkEffect, noData])
  | silence | battery | powerMode =>
    exact kept (view := outsideSupply) (fun _ => rfl) (by simp [linkEffect, noData])
  | _ => rfl

theorem beyondSystem_link (s : State) : KeptOnLink fun t => beyondSystem t = beyondSystem s where
  side h hs := (congrArg beyondSystem h :).trans hs
  effect i t _ hs := (beyondSystem_linkEffect i t).trans hs

theorem beyondSystem_arrival {c : Instr} {s t : State} (hc : isLinkArrival c = true) (ht : exec c s = .next t) :
    beyondSystem t = beyondSystem s :=
  (beyondSystem_link s).arrival hc rfl ht

end Sys2Proof.Safety

open Sys2Proof Sys2Proof.Machine Sys2Proof.Safety

/-- Settles O29: what the effects of both ports leave, and the refusals HELD of the store's commands and data. -/
theorem mastersKeepToTheirRights : Obligations.MastersKeepToTheirRights := by
  refine ⟨fun c s hh hc t ht => ?_, fun c s hc t ht => ?_, fun c s hc t ht => ?_⟩
  · have kept := (store_bus hh).strobe hc (fun _ _ => trivial) rfl ht
    simpa only [store, Prod.mk.injEq] using kept
  · have kept := beyondGame_strobe hc ht
    simp only [beyondGame, Prod.mk.injEq] at kept
    obtain ⟨clock, calendar, setting, crystal, power, battery, retention, wake, side, pin⟩ := kept
    exact ⟨clock, calendar, setting, power, battery, retention, wake, crystal, side, pin⟩
  · have kept := beyondSystem_arrival hc ht
    simpa only [beyondSystem, Prod.mk.injEq] using kept

end

section
/-! Every step keeps the supply in agreement with the main domain (R188, R191, R192): what OFF leaves of every block. -/

namespace Sys2Proof.Safety

open Sys2Proof.Machine

/-! ### The main domain while OFF -/

/-- The records of the main domain. -/
def mainDomain (s : State) : BatteryState × PortRecord × Byte × SideLink × WalkRecord × Vector TableVoice 5 × StreamVoice
    × Memory × Layout × Memory × RingRecord × MixerRecord × RumbleRecord × Memory × Nat × Nat × EventRecord × EventRecord :=
  (s.battery, s.port, s.busData, s.side, s.walk, s.voices, s.voice5, s.waveMem, s.layout, s.ringMem, s.ring, s.mixer,
    s.rumble, s.patternMem, s.motor, s.motorFrame, s.gameEvents, s.systemEvents)

/-- The main domain holds its power-up values (R191). -/
def MainFresh (s : State) : Prop := mainDomain s = mainDomain (mainAtPowerUp .off s)

/-- What the port reads of the supply. -/
def supplyLines (s : State) : PowerState × Retention × Bool × PortRecord := (s.power, s.retention, s.resetPin, s.port)

theorem supplySound_iff (s : State) : SupplySound s ↔
    (s.power = .off → MainFresh s) ∧ (s.resetPin = true → s.port = .initial) ∧ (s.retention = .lost → s.power = .off) := by
  have fresh : MainFresh s ↔ (s.battery = .good ∧ s.port = .initial ∧ s.busData = 0x00 ∧ s.side = .initial ∧ s.walk = .none
      ∧ s.voices = Vector.replicate 5 .initial ∧ s.voice5 = .initial ∧ s.waveMem = [] ∧ s.layout = .short
      ∧ s.ringMem = [] ∧ s.ring = .initial ∧ s.mixer = .initial ∧ s.rumble = .initial ∧ s.patternMem = []
      ∧ s.motor = 0 ∧ s.motorFrame = 0 ∧ s.gameEvents = .initial ∧ s.systemEvents = .initial) := by
    simp only [MainFresh, mainDomain, Prod.mk.injEq]
    rfl
  rw [fresh]

theorem mainFresh_atPowerUp (p : PowerState) (s : State) : MainFresh (mainAtPowerUp p s) := by
  simp only [MainFresh, mainDomain, mainAtPowerUp]

theorem MainFresh.congr {s t : State} (hs : MainFresh s) (h : mainDomain t = mainDomain s) : MainFresh t := h.trans hs

/-- A step that keeps the supply lines, and without the main supply the main domain, keeps all in agreement. -/
theorem SupplySound.quiet {s t : State} (hs : SupplySound s) (hl : supplyLines t = supplyLines s)
    (hm : s.power = .off → MainFresh s → mainDomain t = mainDomain s) : SupplySound t := by
  obtain ⟨fresh, port, off⟩ := (supplySound_iff s).1 hs
  simp only [supplyLines, Prod.mk.injEq] at hl
  obtain ⟨power, retention, pin, record⟩ := hl
  refine (supplySound_iff t).2 ⟨fun h => ?_, fun h => ?_, fun h => ?_⟩
  · have hp := power.symm.trans h
    exact (fresh hp).congr (hm hp (fresh hp))
  · exact record.trans (port (pin.symm.trans h))
  · exact power.trans (off (retention.symm.trans h))

/-- A step with the main supply present keeps all in agreement, if it keeps supply and pin, and the port while RESET is
asserted. -/
theorem SupplySound.on {s t : State} (hs : SupplySound s) (hp : s.power ≠ .off) (hp' : t.power ≠ .off)
    (hr : t.retention = s.retention) (hpin : t.resetPin = s.resetPin) (hport : s.resetPin = true → t.port = s.port) :
    SupplySound t := by
  obtain ⟨-, port, off⟩ := (supplySound_iff s).1 hs
  refine (supplySound_iff t).2 ⟨fun h => absurd h hp', fun h => ?_, fun h => ?_⟩
  · have pin := hpin.symm.trans h
    exact (hport pin).trans (port pin)
  · exact absurd (off (hr.symm.trans h)) hp

/-! ### Both ports -/

theorem SupplySound.strobe {c : Instr} {s t : State} (hs : SupplySound s) (hc : isBusStrobe c = true)
    (ht : exec c s = .next t) : SupplySound t := by
  by_cases alive : busAlive s = true
  · have kept := beyondGame_strobe hc ht
    simp only [beyondGame, Prod.mk.injEq] at kept
    obtain ⟨-, -, -, -, power, -, retention, -, -, pin⟩ := kept
    have hp := power_of_busAlive alive
    refine hs.on hp (power ▸ hp) retention pin fun h => ?_
    simp [busAlive, h] at alive
  · obtain rfl := Host.Outcome.next.inj ((exec_busStrobe_dead (Bool.eq_false_iff.2 alive) c hc).symm.trans ht)
    exact hs

theorem power_link : KeptOnLink fun t => t.power ≠ .off where
  side h hs := by
    have power := congrArg State.power h
    exact fun e => hs (power.symm.trans e)
  effect i t hp _ := by
    cases i with
    | powerMode _ m => exact mt (powerModeOp_on t m).1 hp
    | _ => simpa [linkEffect, noData] using hp

theorem SupplySound.link {c : Instr} {s t : State} (hs : SupplySound s) (hc : isLinkArrival c = true)
    (ht : exec c s = .next t) : SupplySound t := by
  by_cases hp : s.power = .off
  · obtain rfl := Host.Outcome.next.inj ((exec_linkArrival_off hp c hc).symm.trans ht)
    exact hs
  · have kept := beyondSystem_arrival hc ht
    simp only [beyondSystem, Prod.mk.injEq] at kept
    obtain ⟨port, -, -, -, -, -, -, -, -, -, retention, -, -, pin⟩ := kept
    exact hs.on hp (power_link.arrival hc hp ht) retention pin fun _ => port

/-! ### Time passes while OFF -/

section
variable {s : State}

theorem postBoth_of_off (hp : s.power = .off) (k : EventKind) (d : Byte) : postBoth k d s = s := by
  rw [postBoth, postGame_of_off k d hp, postSystem_of_off k d hp]

theorem mainDomain_fireAlarm (hp : s.power = .off) (e : Fin 8) : mainDomain (fireAlarm s e) = mainDomain s := by
  have silent (m : Master) (k : EventKind) (d : Byte) : postTo m k d s = s := by
    cases m
    · exact postGame_of_off k d hp
    · exact postSystem_of_off k d hp
  have still (a : AlarmEntry) : performAction a s = s := by
    unfold performAction
    split
    · exact if_neg (by rw [hp]; decide)
    · rfl
  unfold fireAlarm
  split
  · rfl
  · rw [silent, still]
    rfl

theorem mainDomain_fireAll (hp : s.power = .off) (es : List (Fin 8)) : mainDomain (fireAll es s) = mainDomain s := by
  have kept : (fireAll es s).power = .off ∧ mainDomain (fireAll es s) = mainDomain s :=
    List.foldlRecOn es fireAlarm (motive := fun t => t.power = .off ∧ mainDomain t = mainDomain s) ⟨hp, rfl⟩
      fun t ht e _ => ⟨(fireAlarm_power t e).trans ht.1, (mainDomain_fireAlarm ht.1 e).trans ht.2⟩
  exact kept.2

theorem mainDomain_turnDay (hp : s.power = .off) : mainDomain (turnDay s).1 = mainDomain s := by
  rcases turnDay_cases s with ⟨-, e⟩ | ⟨-, -, e⟩ | ⟨-, -, e⟩ <;> rw [e]
  · rfl
  · rw [postBoth_of_off (by exact hp)]
    rfl

theorem mainDomain_secondArrivalOp (hp : s.power = .off) : mainDomain (secondArrivalOp s) = mainDomain s := by
  have turned (t : State) (ht : t.power = .off) : mainDomain (arrivalTurn t) = mainDomain t := by
    have day := mainDomain_turnDay ht
    unfold arrivalTurn
    dsimp only
    repeat' split
    · exact (mainDomain_fireAll ((turnDay_power t).trans ht) _).trans day
    · exact day
    · rfl
  have seconds (t : State) (ht : t.power = .off) : mainDomain (takeSecond t) = mainDomain t :=
    mainDomain_fireAll (s := counted t) ht _
  have timed (t : State) (ht : t.power = .off) : mainDomain (takeTime t) = mainDomain t := mainDomain_fireAll ht _
  have arrived (t : State) (ht : t.power = .off) : mainDomain (takeTime (arrivalTurn t)) = mainDomain t :=
    (timed _ ((arrivalTurn_power t).trans ht)).trans (turned t ht)
  have dated (t : State) (ht : t.power = .off) : mainDomain (calendarSecond t) = mainDomain t := by
    unfold calendarSecond
    split
    · rfl
    · exact arrived { t with clock := t.clock.advance } ht
  have both (t : State) (ht : t.power = .off) : mainDomain (takeSecond (calendarSecond t)) = mainDomain t :=
    (seconds _ ((calendarSecond_power t).trans ht)).trans (dated t ht)
  unfold secondArrivalOp
  split
  · rfl
  · exact both { s with crystal := 0 } hp

theorem mainDomain_countdownExpiryOp (hp : s.power = .off) (e : Fin 8) :
    mainDomain (countdownExpiryOp e s) = mainDomain s := by
  have counted (x : Option AlarmEntry) : mainDomain (fireAlarm (setAlarm e x s) e) = mainDomain s :=
    mainDomain_fireAlarm (s := setAlarm e x s) hp e
  unfold countdownExpiryOp
  repeat' split
  any_goals rfl
  exact counted _

/-! ### Engines stand still while OFF -/

theorem MainFresh.voices (h : MainFresh s) : s.voices = Vector.replicate 5 .initial :=
  congrArg (fun x => x.2.2.2.2.2.1) h

theorem MainFresh.ring (h : MainFresh s) : s.ring = .initial := congrArg (fun x => x.2.2.2.2.2.2.2.2.2.2.1) h

theorem MainFresh.walk (h : MainFresh s) : s.walk = .none := congrArg (fun x => x.2.2.2.2.1) h

theorem MainFresh.side (h : MainFresh s) : s.side = .initial := congrArg (fun x => x.2.2.2.1) h

theorem MainFresh.port (h : MainFresh s) : s.port = .initial := congrArg (fun x => x.2.1) h

theorem MainFresh.voice_stopped (h : MainFresh s) (v : Fin 5) : s.voices[v].state = .stopped := by
  rw [h.voices]
  exact congrArg TableVoice.state (Vector.getElem_replicate v.isLt)

theorem MainFresh.stream_idle (h : MainFresh s) : s.ring.state.running = false := by
  rw [h.ring]
  rfl

theorem voiceExpiry_of_fresh (h : MainFresh s) (v : Fin 5) : voiceExpiry v s = s := by
  rw [voiceExpiry_eq, if_neg]
  rw [h.voice_stopped v]
  exact fun e => absurd e.1 nofun

theorem envelopeExpiry_of_fresh (h : MainFresh s) (v : Fin 6) : envelopeExpiry v s = s := by
  induction v using Fin.lastCases with
  | last =>
    rw [envelopeExpiry_last, h.stream_idle]
    exact if_neg fun e => absurd e.1 nofun
  | cast v =>
    rw [envelopeExpiry_castSucc, if_neg]
    rw [h.voice_stopped v]
    exact fun e => absurd e.1 nofun

theorem walkPages_of_fresh (h : MainFresh s) (k : Nat) : walkPages k s = s := by
  have still : walkPageOp s = s := by
    unfold walkPageOp
    rw [h.walk]
  induction k with
  | zero => rfl
  | succ k ih =>
    show walkPages k (walkPageOp s) = s
    rw [still, ih]

theorem engineClock_of_fresh (h : MainFresh s) : engineClock s = s := by
  have still (t : State) (ht : t = s) (v : Fin 5) : voiceClock t v = s := by
    subst ht
    exact if_neg (by rw [h.voice_stopped v]; decide)
  have voices : (List.finRange 5).foldl voiceClock s = s :=
    List.foldlRecOn _ _ (motive := fun t => t = s) rfl fun t ht v _ => still t ht v
  rw [engineClock, voices, streamClock_eq, if_pos h.stream_idle]

end

/-! ### Every arrival -/

section
variable {s : State}

theorem SupplySound.supplyRise (hs : SupplySound s) : SupplySound (supplyRise s) := by
  have awake (w : Byte) (t : State) (hk : t.retention = .kept) :
      SupplySound (postBoth .wake w (Safety.mainAtPowerUp .active t)) := by
    rw [postBoth_eq]
    exact (supplySound_iff _).2 ⟨nofun, fun _ => rfl, fun h => absurd (hk.symm.trans h) nofun⟩
  unfold Machine.supplyRise
  split
  · cases hk : s.retention
    · rw [startUp_of_kept hk]
      exact awake _ _ hk
    · rw [startUp_of_lost hk]
      exact awake _ _ rfl
  · exact hs

theorem SupplySound.supplyFall (hs : SupplySound s) : SupplySound (supplyFall s) := by
  by_cases hp : s.power = .off
  · rwa [Machine.supplyFall, if_pos hp]
  · rw [supplyFall_eq hp]
    exact (supplySound_iff _).2 ⟨fun _ => mainFresh_atPowerUp _ _, fun _ => rfl, fun _ => rfl⟩

theorem gameSideReset_power (s : State) : (gameSideReset s).power = s.power := by
  simp only [gameSideReset, resetRumble, resetMixer, resetRing, resetVoices]

theorem gameSideReset_retention (s : State) : (gameSideReset s).retention = s.retention := by
  simp only [gameSideReset, resetRumble, resetMixer, resetRing, resetVoices]

theorem gameSideReset_port (s : State) : (gameSideReset s).port = .initial := by
  simp only [gameSideReset, resetRumble, resetMixer, resetRing, resetVoices]

theorem SupplySound.busResetOp (hs : SupplySound s) : SupplySound (busResetOp s) := by
  obtain ⟨fresh, port, off⟩ := (supplySound_iff s).1 hs
  by_cases hp : s.power = .off
  · rw [busResetOp_of_off hp]
    exact (supplySound_iff _).2 ⟨fun _ => fresh hp, fun _ => (fresh hp).port, off⟩
  · have records : outsideStore (Machine.busResetOp s) = outsideStore (gameSideReset (busResetStore { s with resetPin := true })) := by
      rw [busResetOp_of_on hp]
      unfold grantAfterReset
      split
      · exact outsideStore_grantPending _
      · rfl
    have read {α : Type} (f : State → α) (hf : ∀ u, f (outsideStore u) = f u) :
        f (Machine.busResetOp s) = f (gameSideReset (busResetStore { s with resetPin := true })) :=
      (hf _).symm.trans ((congrArg f records).trans (hf _))
    have store {α : Type} (f : State → α) (hf : ∀ u, f (outsideStore u) = f u) :
        f (busResetStore { s with resetPin := true }) = f { s with resetPin := true } :=
      (hf _).symm.trans ((congrArg f (outsideStore_busResetStore _)).trans (hf _))
    have power := (read State.power fun _ => rfl).trans ((gameSideReset_power _).trans (store State.power fun _ => rfl))
    have retention := (read State.retention fun _ => rfl).trans
      ((gameSideReset_retention _).trans (store State.retention fun _ => rfl))
    have reset : (Machine.busResetOp s).port = .initial :=
      (read State.port fun _ => rfl).trans (gameSideReset_port _)
    exact (supplySound_iff _).2 ⟨fun h => absurd (power.symm.trans h) hp, fun _ => reset,
      fun h => absurd (off (retention.symm.trans h)) hp⟩

theorem SupplySound.retentionLossOp (hs : SupplySound s) : SupplySound (retentionLossOp s) := by
  obtain ⟨fresh, port, off⟩ := (supplySound_iff s).1 hs
  unfold Machine.retentionLossOp
  split
  · next hp => exact (supplySound_iff _).2 ⟨fun _ => fresh hp, port, fun _ => hp⟩
  · exact hs

/-- An operation whose view of the state shows the supply lines keeps them. -/
theorem supplyLines_ofView {t : State} {view : State → State} (hv : ∀ u, supplyLines (view u) = supplyLines u)
    (e : view t = view s) : supplyLines t = supplyLines s :=
  (hv t).symm.trans ((congrArg supplyLines e).trans (hv s))

/-- The arrivals of time, supply and reset keep the supply in agreement. -/
theorem supplySound_arrivals : KeptByArrivals SupplySound where
  fall _ hs := hs.supplyFall
  reset _ hs := hs.busResetOp
  release s hs := by
    obtain ⟨fresh, port, off⟩ := (supplySound_iff s).1 hs
    exact (supplySound_iff _).2 ⟨fresh, nofun, off⟩
  loss _ hs := hs.retentionLossOp
  second s hs := hs.quiet (congrArg supplyLines (outsideCalendar_secondArrivalOp s) :) fun hp _ =>
    mainDomain_secondArrivalOp hp
  countdown e s hs := hs.quiet (supplyLines_ofView (view := outsideAlarms) (fun _ => rfl) (outsideAlarms_countdownExpiryOp s e)) fun hp _ =>
    mainDomain_countdownExpiryOp hp e
  frame first s hs := by
    refine hs.quiet ?_ fun hp _ => ?_
    · unfold frameArrivalOp
      split
      · rfl
      · have sound : outsideSound (envelopeFrames first false (mixFrame (envelopeFrames first true (countFrame s))))
            = outsideSound (countFrame s) := by simp
        exact supplyLines_ofView (view := outsideSound) (s := countFrame s) (fun _ => rfl) sound
    · rw [frameArrivalOp_of_off hp]
      rfl
  voice v s hs := hs.quiet (supplyLines_ofView (view := outsideSound) (fun _ => rfl) (outsideSound_voiceExpiry s v)) fun _ h => by
    rw [voiceExpiry_of_fresh h]
  stream s hs := hs.quiet (supplyLines_ofView (view := outsideSound) (fun _ => rfl) (outsideSound_streamExpiry s)) fun _ h => by
    rw [streamExpiry_of_not_due (.inl h.stream_idle)]
  envelope v s hs := hs.quiet (supplyLines_ofView (view := outsideSound) (fun _ => rfl) (outsideSound_envelopeExpiry s v)) fun _ h => by
    rw [envelopeExpiry_of_fresh h]
  walk k s hs := hs.quiet (supplyLines_ofView (view := outsideStore) (fun _ => rfl) (outsideStore_walkPages s k)) fun _ h => by
    rw [walkPages_of_fresh h]
  driver hp h hs := hs.quiet (supplyLines_ofView (view := outsideDriver) (fun _ => rfl) h) fun off => absurd off hp

theorem SupplySound.engineClock (hs : SupplySound s) : SupplySound (engineClock s) :=
  hs.quiet (supplyLines_ofView (view := outsideSound) (fun _ => rfl) (outsideSound_engineClock s)) fun _ h => by rw [engineClock_of_fresh h]

theorem SupplySound.releaseSelect (hs : SupplySound s) : SupplySound (releaseSelect s) :=
  hs.quiet rfl fun _ h => by
    have idle : { s.side with frame := .idle } = s.side := by rw [h.side]; rfl
    rw [Machine.releaseSelect, idle]

theorem SupplySound.exec {c : Instr} {t : State} (hs : SupplySound s) (ht : exec c s = .next t) : SupplySound t := by
  by_cases hb : isBusStrobe c = true
  · exact hs.strobe hb ht
  · by_cases hl : isLinkArrival c = true
    · exact hs.link hl ht
    · exact kept_of_arrival supplySound_arrivals hb hl (fun _ => hs.supplyRise) hs.releaseSelect hs ht

end

end Sys2Proof.Safety
end

section
/-! The bytes of the records (R178, R181, R184): how long each is, and its fields as numbers. -/

namespace Sys2Proof.Safety

open Sys2Proof.Machine

/-! ### Lengths -/

theorem bytes16_length (n : Nat) : (bytes16 n).length = 2 := rfl
theorem bytesOfHalf_length (h : BitVec 16) : (bytesOfHalf h).length = 2 := rfl
theorem absent_length (n : Nat) : (absent n).length = n := List.length_replicate
theorem opt16_length (x : Option Nat) : (opt16 x).length = 2 := by cases x <;> rfl
theorem optDate_length (x : Option Date) : (optDate x).length = 3 := by cases x <;> rfl
theorem pageSetBytes_length (ps : List Page) : (pageSetBytes ps).length = 8 := rfl
theorem kindSetBytes_length (k : BitVec 18) : (kindSetBytes k).length = 3 := rfl

theorem pageListBytes_length (ps : List Page) : (pageListBytes ps).length = 8 := by
  rw [pageListBytes, List.length_take, List.length_append, absent_length]
  omega

theorem slotBytes_length (x : Option SlotData) : (slotBytes x).length = 19 := by
  cases x with
  | none => rfl
  | some d => simp [slotBytes, pageListBytes_length, bytesOfHalf_length, bytes16_length, optDate_length]

theorem transactionBytes_length (s : State) : (transactionBytes s).length = 18 := by
  have fields (x : Option Txn) : (txnFieldBytes x).length = 14 := by
    cases x with
    | none => rfl
    | some t => simp [txnFieldBytes, pageListBytes_length]
  have hold (h : HoldRecord) : (holdBytes h).length = 2 := by cases h <;> rfl
  have walk (w : WalkRecord) : (walkBytes w).length = 2 := by cases w <;> rfl
  rw [transactionBytes, List.length_append, List.length_append, fields, hold, walk]

theorem noteBytes_length (n : StoreNote) : (noteBytes n).length = 4 := by cases n <;> rfl

theorem wakeBytes_length (w : WakeNote) : (wakeBytes w).length = 17 := by
  simp [wakeBytes, bytes16_length, opt16_length, optDate_length]

theorem alarmBytes_length (s : State) (e : Fin 8) : (alarmBytes s e).length = 14 := by
  have due (d : AlarmDue) : (dueBytes d).2.2.length = 6 := by
    cases d <;> simp [dueBytes, bytes16_length, opt16_length, absent_length]
  unfold alarmBytes
  split
  · rfl
  · simp [due]

theorem streamStateBytes_length (r : StreamState) : (streamStateBytes r).length = 2 := by cases r <;> rfl

theorem streamBytes_length (r : RingRecord) : (streamBytes r).length = 12 := by
  simp [streamBytes, streamStateBytes_length, bytes16_length]

theorem voiceBytes_length (s : State) (v : Fin 6) : (voiceBytes s v).length = 19 := by
  have sounding (d : Divider) (e : Envelope) : (pitchAndEnvelopeBytes d e).length = 12 := rfl
  unfold voiceBytes
  split
  · simp [sounding]
  · simp [sounding, absent_length, streamStateBytes_length]

theorem rumbleBytes_length (r : RumbleRecord) : (rumbleBytes r).length = 15 := by
  have mode (m : RumbleMode) : (rumbleModeBytes m).length = 8 := by cases m <;> rfl
  simp [rumbleBytes, mode, bytes16_length]

theorem eventHeadBytes_length (r : EventRecord) : (eventHeadBytes r).length = 12 := by
  have head (q : List EventEntry) : (headBytes q).length = 3 := by cases q <;> rfl
  simp [eventHeadBytes, head, kindSetBytes_length]

/-- Every record is as long as the table says (R178). -/
theorem recordCopy_length {m : Master} {r : RecordId} {x : Byte} {s : State} {bytes : List Byte}
    (h : recordCopy m r x s = some bytes) : bytes.length = recordLength r := by
  have whole {l : List Byte} {n : Nat} (e : some l = some bytes) (hl : l.length = n) : bytes.length = n :=
    Option.some.inj e ▸ hl
  cases r <;> simp only [recordCopy, Option.map_eq_some_iff] at h
  case slot =>
    obtain ⟨n, -, rfl⟩ := h
    exact slotBytes_length _
  case alarm =>
    obtain ⟨e, -, rfl⟩ := h
    exact alarmBytes_length s e
  case voice =>
    obtain ⟨v, -, rfl⟩ := h
    exact voiceBytes_length s v
  case clock => exact whole h rfl
  case gameDay => exact whole h rfl
  case pool => exact whole h rfl
  case transaction => exact whole h (transactionBytes_length s)
  case storeNote => exact whole h (noteBytes_length _)
  case wakeNote => exact whole h (wakeBytes_length _)
  case stream => exact whole h (streamBytes_length _)
  case rumble => exact whole h (rumbleBytes_length _)
  case eventHead => exact whole h (eventHeadBytes_length _)
  case power => exact whole h rfl
  case mixer => exact whole h rfl

/-! ### Values -/

theorem toNat_byteOf (n : Nat) : (byteOf n).toNat = n % 256 := rfl

theorem toNat_byteOfBool (b : Bool) : (byteOfBool b).toNat = if b then 1 else 0 := by cases b <;> rfl

theorem toNats_bytes16 (n : Nat) : (bytes16 n).map BitVec.toNat = [n / 256 % 256, n % 256] := rfl

theorem toNats_bytesOfHalf (h : BitVec 16) : (bytesOfHalf h).map BitVec.toNat = [h.toNat / 256 % 256, h.toNat % 256] := by
  have hi : (Half.hi h).toNat = h.toNat / 256 % 256 := by
    rw [Half.hi, BitVec.extractLsb'_toNat, Nat.shiftRight_eq_div_pow]
  have lo : (Half.lo h).toNat = h.toNat % 256 := by
    rw [Half.lo, BitVec.extractLsb'_toNat, Nat.shiftRight_zero]
  rw [bytesOfHalf, List.map_cons, List.map_cons, List.map_nil, hi, lo]

theorem toNats_absent (n : Nat) : (absent n).map BitVec.toNat = List.replicate n 255 := List.map_replicate

theorem toNats_pageListBytes (ps : List Page) :
    (pageListBytes ps).map BitVec.toNat = (ps.map Fin.val ++ List.replicate 8 255).take 8 := by
  have page (p : Page) : (byteOf p.val).toNat = p.val := Nat.mod_eq_of_lt (Nat.lt_trans p.isLt (by decide))
  have pages : ps.map (BitVec.toNat ∘ fun p => byteOf p.val) = ps.map Fin.val := List.map_congr_left fun p _ => page p
  rw [pageListBytes, List.map_take, List.map_append, toNats_absent, List.map_map, pages]

/-- The number whose bits below `n` are `f`. -/
def bitsValue (f : Nat → Bool) (n : Nat) : Nat := (List.range n).foldl (fun acc i => if f i then acc + 2 ^ i else acc) 0

theorem bitsValue_succ (f : Nat → Bool) (n : Nat) :
    bitsValue f (n + 1) = if f n then bitsValue f n + 2 ^ n else bitsValue f n := by
  rw [bitsValue, List.range_succ, List.foldl_append]
  rfl

theorem bitsValue_lt (f : Nat → Bool) (n : Nat) : bitsValue f n < 2 ^ n := by
  induction n with
  | zero => exact Nat.one_pos
  | succ n ih =>
    rw [bitsValue_succ, Nat.pow_succ]
    split <;> omega

theorem testBit_bitsValue (f : Nat → Bool) {n j : Nat} (h : j < n) : (bitsValue f n).testBit j = f j := by
  induction n with
  | zero => exact absurd h (Nat.not_lt_zero j)
  | succ n ih =>
    rw [bitsValue_succ, Nat.add_comm]
    rcases Nat.lt_succ_iff_lt_or_eq.1 h with lt | rfl
    · split
      · rw [Nat.testBit_two_pow_add_gt lt, ih lt]
      · exact ih lt
    · have top := Nat.testBit_lt_two_pow (bitsValue_lt f j)
      split
      · next hf => rw [Nat.testBit_two_pow_add_eq, top, hf]; rfl
      · next hf => rw [top, Bool.eq_false_iff.2 hf]

/-- A set of pages has a bit for each member (R184). -/
theorem pageSetBytes_bit (ps : List Page) (p : Page) :
    ((pageSetBytes ps).getD (p.val / 8) 0).getLsbD (p.val % 8) = decide (p ∈ ps) := by
  have place : p.val / 8 < 8 := Nat.div_lt_of_lt_mul p.isLt
  have bit : p.val % 8 < 8 := Nat.mod_lt _ (by decide)
  have byte : (pageSetBytes ps).getD (p.val / 8) 0
      = byteOf (bitsValue (fun i => (ps.map Fin.val).contains (8 * (p.val / 8) + i)) 8) := by
    rw [List.getD_eq_getElem _ _ (by rw [pageSetBytes_length]; exact place)]
    simp only [pageSetBytes, List.getElem_map, List.getElem_range]
    rfl
  rw [byte, byteOf, BitVec.getLsbD_ofNat, decide_eq_true bit, Bool.true_and, testBit_bitsValue _ bit, Nat.div_add_mod]
  rw [Bool.eq_iff_iff]
  simp [Fin.val_inj]

theorem toNats_kindSetBytes (k : BitVec 18) :
    (kindSetBytes k).map BitVec.toNat = [k.toNat / 65536, k.toNat / 256 % 256, k.toNat % 256] := by
  have high : ((k.extractLsb' 16 2).setWidth 8).toNat = k.toNat / 65536 := by
    have := k.isLt
    rw [BitVec.toNat_setWidth, BitVec.extractLsb'_toNat, Nat.shiftRight_eq_div_pow]
    omega
  have middle : (k.extractLsb' 8 8).toNat = k.toNat / 256 % 256 := by
    rw [BitVec.extractLsb'_toNat, Nat.shiftRight_eq_div_pow]
  have low : (k.extractLsb' 0 8).toNat = k.toNat % 256 := by
    rw [BitVec.extractLsb'_toNat, Nat.shiftRight_zero]
  rw [kindSetBytes, List.map_cons, List.map_cons, List.map_cons, List.map_nil, high, middle, low]

theorem toNats_optDate (d : Option Date) : (optDate d).map BitVec.toNat =
    d.elim (List.replicate 3 255) fun d => [d.year % 256, d.month % 256, d.day % 256] := by cases d <;> rfl

theorem toNats_opt16 (x : Option Nat) : (opt16 x).map BitVec.toNat =
    x.elim (List.replicate 2 255) fun n => [n / 256 % 256, n % 256] := by cases x <;> rfl

theorem missedFor_eq (l : List (Fin 8 × Nat)) (e : Fin 8) :
    missedFor l e = ((l.find? fun y => decide (y.1 = e)).map Prod.snd).getD 0 := by
  unfold missedFor
  have test : (fun y : Fin 8 × Nat => y.1 == e) = fun y => decide (y.1 = e) := funext fun y => rfl
  rw [test]
  cases l.find? fun y => decide (y.1 = e) <;> rfl

theorem toNats_pitchAndEnvelope (d : Divider) (v : Envelope) : (pitchAndEnvelopeBytes d v).map BitVec.toNat =
    [d.d / 256 % 256, d.d % 256] ++ [d.detune.toNat] ++ [d.effective / 256 % 256, d.effective % 256]
      ++ [d.countdown / 256 % 256, d.countdown % 256]
      ++ [v.volume % 256, match v.direction with | .none => 0 | .up => 1 | .down => 2, v.period % 256]
      ++ [v.count / 256 % 256, v.count % 256] := by
  unfold pitchAndEnvelopeBytes
  cases v.direction <;> rfl

theorem findIdx?_eq_takeWhile (l : List (Fin 8)) (e : Fin 8) : l.findIdx? (· == e) =
    if e ∈ l then some (l.takeWhile fun f => decide (f.val ≠ e.val)).length else none := by
  induction l with
  | nil => rfl
  | cons f l ih =>
    rw [List.findIdx?_cons, ih]
    by_cases h : f = e
    · subst h
      simp
    · have hv : f.val ≠ e.val := fun hv => h (Fin.ext hv)
      simp only [beq_eq_false_iff_ne.2 h, List.mem_cons, (Ne.symm h), false_or, List.takeWhile_cons, hv, ne_eq,
        not_false_eq_true, decide_true, if_true, Bool.false_eq_true, if_false]
      split <;> simp

/-- Position in the due list of an entry that is not FREE (R79). -/
theorem toNat_duePosition {s : State} {e : Fin 8} {a : AlarmEntry} (ha : s.alarms[e] = some a) :
    (optByte (duePosition s e)).toNat = if a.state = .armed
      then ((dueList s).takeWhile fun f => decide (f.val ≠ e.val)).length % 256 else 255 := by
  have listed : e ∈ dueList s ↔ a.state = .armed := by
    rw [mem_dueList, isArmed, ha]
    exact decide_eq_true_iff
  rw [duePosition, findIdx?_eq_takeWhile]
  simp only [listed]
  split <;> rfl

theorem voiceBytes_castSucc (s : State) (v : Fin 5) : voiceBytes s v.castSucc =
    [match s.voices[v].state with | .stopped => 0x00 | .playing => 0x01 | .paused => 0x02,
      byteOf s.voices[v].code, byteOf s.voices[v].start, byteOf s.voices[v].loopPosition,
      byteOf ((if s.voices[v].loop then 1 else 0) + (if s.voices[v].stopAtZero then 2 else 0)), byteOf s.voices[v].position]
      ++ pitchAndEnvelopeBytes s.voices[v].divider s.voices[v].envelope ++ [s.voices[v].sample] := dif_pos v.isLt

theorem voiceBytes_last (s : State) : voiceBytes s (Fin.last 5) = (streamStateBytes s.ring.state).take 1 ++ absent 5
    ++ pitchAndEnvelopeBytes s.voice5.divider s.voice5.envelope ++ [s.ring.held] := rfl

theorem toNats_eventHeadBytes (r : EventRecord) : (eventHeadBytes r).map BitVec.toNat =
    (r.queue.head?.elim [255, 0, 0] fun y => [y.kind.number, y.detail.toNat, y.count % 256])
      ++ [r.queue.length % 256, r.lost.toNat / 65536, r.lost.toNat / 256 % 256, r.lost.toNat % 256,
        r.mask.toNat / 65536, r.mask.toNat / 256 % 256, r.mask.toNat % 256,
        if r.lineEnable then 1 else 0, if r.line then 1 else 0] := by
  have head (q : List EventEntry) : (headBytes q).map BitVec.toNat =
      q.head?.elim [255, 0, 0] fun y => [y.kind.number, y.detail.toNat, y.count % 256] := by
    cases q with
    | nil => rfl
    | cons y ys =>
      have number : y.kind.number % 256 = y.kind.number := by cases y.kind <;> rfl
      simp [headBytes, toNat_byteOf, number]
  simp only [eventHeadBytes, List.map_append, List.map_cons, List.map_nil, head, toNat_byteOf, toNat_byteOfBool,
    toNats_kindSetBytes, List.append_assoc, List.cons_append, List.nil_append]

/-! ### Naming a record -/

theorem recordOf_of_le {id : Byte} (h : 14 ≤ id.toNat) : recordOf id = none := by
  unfold recordOf
  generalize id.toNat = n at h
  split <;> first | rfl | omega

section
variable {id x : Byte} {k : RecordId} {s : State}

/-- READ RECORD of a record open to the system controller (R181). -/
theorem readRecordOp_of_copy (hk : recordOf id = some k) (hv : k ≠ .voice) (hr : k ≠ .rumble) {bytes : List Byte}
    (hb : recordCopy .system k x s = some bytes) : readRecordOp id x s = (s, .ok, bytes) := by
  unfold readRecordOp
  rw [hk]
  cases k with
  | voice => exact absurd rfl hv
  | rumble => exact absurd rfl hr
  | _ => simp only [hb]

theorem readRecordOp_of_none (hk : recordOf id = some k) (hv : k ≠ .voice) (hr : k ≠ .rumble)
    (hb : recordCopy .system k x s = none) : readRecordOp id x s = (s, .noSuch, []) := by
  unfold readRecordOp
  rw [hk]
  cases k with
  | voice => exact absurd rfl hv
  | rumble => exact absurd rfl hr
  | _ => simp only [hb]

/-- An id below 14, with an index in range where the record has one, names a record. -/
theorem recordCopy_isSome (hid : id.toNat < 14) (hv : id.toNat ≠ 9) (hr : id.toNat ≠ 10)
    (hx : id.toNat = 2 ∨ id.toNat = 7 → x.toNat < 8) :
    ((recordOf id).bind fun k => recordCopy .system k x s).isSome = true := by
  unfold recordOf
  generalize id.toNat = n at hid hv hr hx
  by_cases indexed : n = 2 ∨ n = 7
  · have named := indexBelow_of_lt (hx indexed)
    rcases indexed with rfl | rfl <;> simp only [Option.bind_some, recordCopy, named, Option.map_some, Option.isSome_some]
  · interval_cases n <;> first | rfl | contradiction

end

end Sys2Proof.Safety

open Sys2Proof Sys2Proof.Machine Sys2Proof.Safety

/-- Settles O18: which record an id and an index name, then the fields of each. -/
theorem readRecordResults : Obligations.ReadRecordResults := by
  refine ⟨fun id x s hs => ⟨fun h => ?_, fun h => ?_, fun hid hv hr hx => ?_, fun k hk hv hr bytes hb => ?_⟩, fun m x s => ?_⟩
  · have refused : readRecordOp id x s = (s, .noSuch, []) := by
      rcases h with h | ⟨h | h, hx⟩
      · rw [readRecordOp, recordOf_of_le h]
      · obtain rfl : id = 0x02 := BitVec.eq_of_toNat_eq h
        exact readRecordOp_of_none rfl nofun nofun (congrArg (Option.map _) (indexBelow_of_le hx))
      · obtain rfl : id = 0x07 := BitVec.eq_of_toNat_eq h
        exact readRecordOp_of_none rfl nofun nofun (congrArg (Option.map _) (indexBelow_of_le hx))
    exact next_runLink [0x62, id, x] hs (by rw [refused]) refused
  · have refused : readRecordOp id x s = (s, .privilege, []) := by
      rcases h with h | h
      · obtain rfl : id = 0x09 := BitVec.eq_of_toNat_eq h
        rfl
      · obtain rfl : id = 0x0A := BitVec.eq_of_toNat_eq h
        rfl
    exact next_runLink [0x62, id, x] hs (by rw [refused]) refused
  · exact recordCopy_isSome hid hv hr hx
  · have accepted := readRecordOp_of_copy hk hv hr hb
    exact ⟨recordCopy_length hb, next_runLink [0x62, id, x] hs (by rw [accepted]) accepted⟩
  · dsimp only
    refine ⟨?_, ?_, ?_, ?_, ?_, ?_, ?_, ?_, ?_, ?_, ?_, ?_, ?_, ?_, ?_, ?_⟩
    · simp only [recordCopy, clockBytes, Option.map_some, List.map_cons, List.map_nil, toNat_byteOf]
      cases s.calendar <;> rfl
    · simp only [recordCopy, gameDayBytes, Option.map_some, List.map_append, List.map_cons, List.map_nil, toNat_byteOf,
        toNats_bytes16]
      cases s.setting.kind <;> rfl
    · intro hx
      have at_x : slotAt s x = s.slots[(⟨x.toNat, hx⟩ : Fin 8)] := slotAt_of_lt s x hx
      rw [at_x]
      simp only [recordCopy, indexBelow_of_lt hx, Option.map_some]
      cases s.slots[(⟨x.toNat, hx⟩ : Fin 8)] with
      | none => rfl
      | some d =>
        simp only [slotBytes, List.map_append, List.map_cons, List.map_nil, toNat_byteOf, toNats_bytes16,
          toNats_bytesOfHalf, toNats_pageListBytes]
        cases d.damaged <;> cases d.stampDate <;> rfl
    · rfl
    · intro p
      have next : (recordCopy m .pool x s).getD [] = byteOf s.pool.length :: pageSetBytes s.pool := rfl
      rw [next, Nat.add_comm, List.getD_cons_succ]
      exact pageSetBytes_bit s.pool p
    · have slot (n : SlotNo) : n.val % 256 = n.val := Nat.mod_eq_of_lt (Nat.lt_trans n.isLt (by decide))
      simp only [recordCopy, transactionBytes, Option.map_some, List.map_append]
      congr 2
      · congr 1
        · cases s.txn with
          | none => rfl
          | some y =>
            simp only [txnFieldBytes, List.map_append, List.map_cons, List.map_nil, toNat_byteOf, toNats_pageListBytes, slot]
            cases y.mode <;> cases y.phase <;> simp [toNat_byteOf, toNat_byteOfBool]
        · cases s.hold with
          | notHeld => rfl
          | pending k => cases k <;> rfl
          | held k => cases k <;> rfl
      · cases s.walk with
        | verify n => simp only [walkBytes, List.map_cons, List.map_nil, toNat_byteOf, slot]; rfl
        | _ => rfl
    · have slot (n : SlotNo) : n.val % 256 = n.val := Nat.mod_eq_of_lt (Nat.lt_trans n.isLt (by decide))
      simp only [recordCopy, Option.map_some]
      cases s.note with
      | none => rfl
      | committed n g =>
        simp only [noteBytes, List.map_append, List.map_cons, List.map_nil, toNat_byteOf, toNats_bytesOfHalf, slot]
        rfl
      | ended k n =>
        simp only [noteBytes, List.map_cons, List.map_nil, toNat_byteOf, slot]
        cases k <;> rfl
    · simp only [recordCopy, wakeBytes, Option.map_some, List.map_append, List.map_cons, List.map_nil, List.map_map,
        toNat_byteOf, toNat_byteOfBool, toNats_bytes16, toNats_opt16, toNats_optDate, Function.comp_def, missedFor_eq]
      cases s.wake.powerDownDay <;> cases s.wake.powerDownDate <;> rfl
    · intro hx
      have at_x : alarmAt s x = s.alarms[(⟨x.toNat, hx⟩ : Fin 8)] := alarmAt_of_lt s x hx
      rw [at_x]
      simp only [recordCopy, indexBelow_of_lt hx, Option.map_some, alarmBytes]
      generalize ha : s.alarms[(⟨x.toNat, hx⟩ : Fin 8)] = entry
      cases entry with
      | none => rfl
      | some a =>
        have pattern (p : Fin 4) : p.val % 256 = p.val := Nat.mod_eq_of_lt (Nat.lt_trans p.isLt (by decide))
        simp only [List.map_append, List.map_cons, List.map_nil, toNat_byteOf, toNat_byteOfBool, toNat_duePosition ha]
        cases a.state <;> cases a.owner <;> cases a.action <;> cases a.due with
        | real t r => cases r <;> simp [dueBytes, toNat_byteOf, optByte, pattern]
        | game d every => simp [dueBytes, toNat_byteOf, optByte, pattern, toNats_bytes16, toNats_absent]
        | countdown n r =>
          cases r <;> simp [dueBytes, toNat_byteOf, optByte, pattern, toNats_bytes16, toNats_absent, opt16, byteOfBool]
    · simp only [recordCopy, streamBytes, Option.map_some, List.map_append, List.map_cons, List.map_nil, toNat_byteOf,
        toNats_bytes16]
      cases s.ring.state with
      | idle => rfl
      | run r => cases r <;> rfl
      | paused r => cases r <;> rfl
    · intro v hv
      have hx : x.toNat < 6 := hv ▸ Nat.lt_trans v.isLt (by decide)
      have named : (⟨x.toNat, hx⟩ : Fin 6) = v.castSucc := Fin.ext hv
      simp only [recordCopy, indexBelow_of_lt hx, Option.map_some, named, voiceBytes_castSucc]
      generalize s.voices[v] = y
      simp only [List.map_append, List.map_cons, List.map_nil, toNat_byteOf, toNats_pitchAndEnvelope]
      cases y.state <;> cases y.loop <;> cases y.stopAtZero <;> rfl
    · rintro rfl
      have five : recordCopy m .voice 0x05 s = some (voiceBytes s (Fin.last 5)) := rfl
      simp only [five, Option.map_some, voiceBytes_last, List.map_append, List.map_cons, List.map_nil, toNats_absent,
        toNats_pitchAndEnvelope]
      cases s.ring.state with
      | idle => rfl
      | run r => cases r <;> rfl
      | paused r => cases r <;> rfl
    · have pattern (p : Fin 4) : p.val % 256 = p.val := Nat.mod_eq_of_lt (Nat.lt_trans p.isLt (by decide))
      have voice (v : Fin 6) : v.val % 256 = v.val := Nat.mod_eq_of_lt (Nat.lt_trans v.isLt (by decide))
      simp only [recordCopy, rumbleBytes, Option.map_some, List.map_append, List.map_cons, List.map_nil, toNat_byteOf,
        toNats_bytes16, toNat_byteOfBool]
      cases s.rumble.rest <;> cases s.rumble.mode with
      | off => rfl
      | direct l => rfl
      | pattern p n k l t => simp [rumbleModeBytes, toNat_byteOf, pattern, optByte]
      | linked v => simp [rumbleModeBytes, toNat_byteOf, voice, toNats_absent, optByte]
    · cases m
      · simp only [recordCopy, eventsOf, Option.map_some, toNats_eventHeadBytes]
        cases s.gameEvents.queue.head? <;> rfl
      · simp only [recordCopy, eventsOf, Option.map_some, toNats_eventHeadBytes]
        cases s.systemEvents.queue.head? <;> rfl
    · intro hp
      simp only [recordCopy, powerBytes, Option.map_some, List.map_cons, List.map_nil, toNat_byteOfBool]
      cases h : s.power <;> cases s.battery <;> first | rfl | exact absurd h hp
    · simp only [recordCopy, mixerBytes, Option.map_some, List.map_append, List.map_cons, List.map_nil, toNat_byteOf,
        toNats_bytes16, toNat_byteOfBool]
      cases s.mixer.rounding <;> cases s.layout <;> rfl
end

section
/-! Every step keeps the records of both ports in their ranges (R169, R170, R175, R179). -/

namespace Sys2Proof.Safety

open Sys2Proof.Machine

/-! ### The port record -/

/-- A pending command is a known code that lacks a parameter (R170). -/
def commandSound (p : PortRecord) : Prop :=
  ∀ c ∈ p.command, busParameters (commandCode c.byte) = some c.needed ∧ c.received.length < c.needed

/-- The port record in its ranges. -/
structure PortFine (p : PortRecord) : Prop where
  target : targetSound p = true
  command : commandSound p

theorem portFine_initial : PortFine .initial := ⟨rfl, nofun⟩

section
variable {p : PortRecord}

/-- Outcome, summary and direction say nothing of target or command. -/
theorem PortFine.reported (h : PortFine p) (o : OutcomeCode) (b d : Bool) :
    PortFine { p with outcome := o, summary := b, descending := d } := ⟨h.target, h.command⟩

theorem PortFine.withoutCommand (h : PortFine p) : PortFine { p with command := none } := ⟨h.target, nofun⟩

theorem PortFine.withCommand (h : PortFine p) {c : PendingCommand} (hk : busParameters (commandCode c.byte) = some c.needed)
    (hl : c.received.length < c.needed) : PortFine { p with command := some c } :=
  ⟨h.target, fun _ hc => Option.some.inj hc ▸ ⟨hk, hl⟩⟩

end

section
variable {s : State}

theorem postGame_port (k : EventKind) (d : Byte) : (postGame k d s).port = s.port := by rw [postGame_eq]

theorem PortFine.refuseAccess (h : PortFine s.port) (o : OutcomeCode) : PortFine (refuseAccess o s).port := by
  rw [Machine.refuseAccess, noteRefusal, postGame_port]
  exact h.reported _ _ _

theorem PortFine.report {x : Result} (h : PortFine x.1.port) (r : Bool) (code : Byte) :
    PortFine (report r code x).port := by
  have outcome : PortFine (if r then { x.1 with port.outcome := x.2 } else x.1).port := by
    split
    · exact h.reported _ _ _
    · exact h
  simp only [Machine.report]
  split
  · exact outcome.refuseAccess x.2
  · split
    · rw [postGame_port]
      exact outcome
    · exact outcome

theorem PortFine.abandonCommand (h : PortFine s.port) : PortFine (abandonCommand s).port := by
  unfold Machine.abandonCommand
  split
  · exact h
  · exact PortFine.report (x := ({ s with port := { s.port with command := none } }, .incomplete)) h.withoutCommand _ _

/-! ### Targets -/

theorem moveCounter_lt (d : Bool) {size : Nat} (c : Nat) (h : 0 < size) : moveCounter d size c < size := by
  unfold moveCounter
  split <;> exact Nat.mod_lt _ h

theorem recordLength_pos (r : RecordId) : 0 < recordLength r := by cases r <;> decide

end

section
variable {p : PortRecord}

theorem targetSound_wave (h : p.target = .wave) : targetSound p = decide (p.counter < 256) := by rw [targetSound, h]
theorem targetSound_pattern (h : p.target = .pattern) : targetSound p = decide (p.counter < 128) := by rw [targetSound, h]
theorem targetSound_stage (h : p.target = .stage) : targetSound p = true := by rw [targetSound, h]
theorem targetSound_slot {n : SlotNo} (h : p.target = .slot n) : targetSound p = true := by rw [targetSound, h]

theorem targetSound_info {r : RecordId} {x : Byte} {copy : List Byte} (h : p.target = .info r x copy) :
    targetSound p = decide (copy.length = recordLength r ∧ p.counter < copy.length) := by rw [targetSound, h]

end

section
variable {s : State}

/-! ### Commands and data -/

theorem PortFine.selectOp (h : PortFine s.port) (t x : Byte) (a : Half) : PortFine (selectOp t x a s).1.port := by
  have select {u : Target} {c : Nat} {l : Byte}
      (hu : targetSound { s.port with target := u, counter := c, latch := l } = true) :
      PortFine (selectTarget u c l s).port := ⟨hu, h.command⟩
  unfold Machine.selectOp
  split
  · exact select rfl
  · exact select (decide_eq_true (Nat.mod_lt _ (by decide)))
  · exact select rfl
  · unfold selectStage
    repeat' split
    · exact h
    · exact h
    · exact select rfl
  · unfold selectSlot
    repeat' split
    any_goals exact h
    exact select rfl
  · exact select (decide_eq_true (Nat.mod_lt _ (by decide)))
  · unfold selectInfo
    split
    · exact h
    · split
      · exact h
      · next copied =>
        have length := recordCopy_length copied
        refine select (decide_eq_true ⟨length, Nat.mod_lt _ ?_⟩)
        rw [length]
        exact recordLength_pos _
  · exact h

theorem PortFine.busEffect (h : PortFine s.port) (i : Instr) : PortFine (busEffect i s).1.port := by
  have kept {view : State → State} (hv : ∀ u, (view u).port = u.port)
      (e : view (Machine.busEffect i s).1 = view s) : PortFine (Machine.busEffect i s).1.port :=
    ((hv _).symm.trans ((congrArg State.port e).trans (hv s))) ▸ h
  cases i with
  | select r t x a => exact h.selectOp t x a
  | entry r d =>
    rw [Machine.busEffect, entryOp_eq]
    split
    · exact h.reported _ _ _
    · exact h
  | statusClear => exact h.reported _ _ _
  | eventAck | eventAckLost | eventMask => exact h
  | lineEnable r e =>
    show PortFine (lineEnableOp .game e s).1.port
    unfold lineEnableOp
    split <;> exact h
  | openTxn | commit | abort | erase | verify =>
    exact kept (view := outsideStore) (fun _ => rfl) (by simp [Machine.busEffect])
  | dayStart r hour minute =>
    rw [Machine.busEffect, dayStartOp_eq]
    split <;> exact h
  | alarmArm | alarmDisarm => exact kept (view := outsideAlarms) (fun _ => rfl) (by simp [Machine.busEffect])
  | voiceSet | voiceStart | voiceStop | voicePitch | voiceLevel | waveLayout | ringSet | ringFlush | mixSet | clipClear =>
    exact kept (view := outsideSound) (fun _ => rfl) (by simp [Machine.busEffect])
  | rumbleDirect | rumblePattern | rumbleLink | rumbleStop | rumbleLimit =>
    exact kept (view := outsideDriver) (fun _ => rfl) (by simp [Machine.busEffect])
  | _ => exact h

theorem PortFine.targetWrite (h : PortFine s.port) (b : Byte) : PortFine (targetWrite b s).port := by
  unfold Machine.targetWrite
  split
  · exact h.refuseAccess _
  · next ht =>
    exact ⟨(targetSound_wave (by exact ht)).trans (decide_eq_true (moveCounter_lt _ _ (show 0 < 256 by decide))), h.command⟩
  · next ht =>
    exact ⟨(targetSound_pattern (by exact ht)).trans (decide_eq_true (moveCounter_lt _ _ (show 0 < 128 by decide))), h.command⟩
  · next ht =>
    unfold stageWrite
    repeat' split
    · exact h.refuseAccess _
    · exact h.refuseAccess _
    · exact ⟨targetSound_stage ht, h.command⟩
  · rw [ringWrite_frame]
    exact h
  · exact h.refuseAccess _
  · exact h.refuseAccess _

theorem PortFine.targetRead (h : PortFine s.port) : PortFine (targetRead s).port := by
  have refused (o : OutcomeCode) : PortFine (refuseRead o s).port :=
    PortFine.refuseAccess (s := { s with busData := 0xFF }) h o
  unfold Machine.targetRead
  split
  · exact h
  · exact refused _
  · next ht =>
    exact ⟨(targetSound_wave (by exact ht)).trans (decide_eq_true (moveCounter_lt _ _ (show 0 < 256 by decide))), h.command⟩
  · next ht =>
    exact ⟨(targetSound_pattern (by exact ht)).trans (decide_eq_true (moveCounter_lt _ _ (show 0 < 128 by decide))), h.command⟩
  · next ht =>
    unfold stageRead
    repeat' split
    · exact refused _
    · exact refused _
    · exact ⟨targetSound_stage ht, h.command⟩
  · next ht =>
    unfold slotPortRead
    repeat' split
    · exact refused _
    · exact refused _
    · exact ⟨targetSound_slot ht, h.command⟩
  · next ht =>
    obtain ⟨length, inside⟩ := of_decide_eq_true ((targetSound_info ht).symm.trans h.target)
    have moved := moveCounter_lt s.port.descending s.port.counter (Nat.zero_lt_of_lt inside)
    exact ⟨(targetSound_info (by exact ht)).trans (decide_eq_true ⟨length, moved⟩), h.command⟩

/-! ### Strobes -/

theorem PortFine.runBus (h : PortFine s.port) (r : Bool) (code : Byte) (i : Instr) :
    PortFine (runBus r code (Machine.busEffect i) s).port := by
  unfold Machine.runBus
  split
  · exact (h.abandonCommand.busEffect i).report _ _
  · exact h

theorem PortFine.takeBus (h : PortFine s.port) (b : Byte) (ps : List Byte) : PortFine (takeBus b ps s).port := by
  unfold Machine.takeBus
  split
  · exact (h.busEffect _).report _ _
  · exact h

theorem PortFine.commandWrite (h : PortFine s.port) (b : Byte) : PortFine (commandWrite b s).port := by
  have abandoned := h.abandonCommand
  simp only [Machine.commandWrite]
  split
  · split
    · exact PortFine.report (x := refuse .noSuch (Machine.abandonCommand s)) abandoned _ _
    · exact abandoned.takeBus b []
    · next n hn known =>
      exact abandoned.withCommand known (Nat.pos_of_ne_zero hn)
  · exact h

theorem PortFine.dataPortWrite (h : PortFine s.port) (b : Byte) : PortFine (dataPortWrite b s).port := by
  simp only [Machine.dataPortWrite]
  split
  · split
    · exact h.targetWrite b
    · next c hc =>
      obtain ⟨known, -⟩ := h.command c hc
      split
      · next more => exact h.withCommand known more
      · exact PortFine.takeBus (s := { s with port := { s.port with command := none } }) h.withoutCommand _ _
  · exact h

theorem PortFine.strobe (h : PortFine s.port) {c : Instr} {t : State} (hc : isBusStrobe c = true)
    (ht : exec c s = .next t) : PortFine t.port := by
  have whole (hb : c.busBytes.isSome = true) : PortFine t.port := by
    obtain ⟨r, code, he⟩ := exec_of_busBytes c s hb
    obtain rfl := Host.Outcome.next.inj (he.symm.trans ht)
    exact h.runBus r code c
  cases c with
  | commandPortWrite b | unknownCommand b =>
    obtain rfl := Host.Outcome.next.inj ht
    exact h.commandWrite b
  | parameterByteWrite b | dataWrite b =>
    obtain rfl := Host.Outcome.next.inj ht
    exact h.dataPortWrite b
  | dataRead =>
    obtain rfl := Host.Outcome.next.inj ht
    show PortFine (dataPortRead s).port
    unfold dataPortRead
    split
    · exact h.targetRead
    · exact h
  | _ => exact whole hc

end

/-! ### The side link -/

/-- A frame whose request is taken, whatever it was (R179). -/
theorem frameSound_takeLink (op : State → LinkResult) (s : State) : frameSound (takeLink op s).side = true := by
  have post (k : EventKind) (d : Byte) (t : State) : (postSystem k d t).side = t.side := by
    unfold postSystem
    split <;> rfl
  simp only [takeLink]
  split
  · rw [post]
    rfl
  · rfl

section
variable {s : State}

theorem frameSound_takeFrame (bytes : List Byte) (s : State) : frameSound (takeFrame bytes s).side = true := by
  unfold takeFrame
  split <;> exact frameSound_takeLink _ _

/-- Bytes of a request in a frame that has sampled nothing (R179). -/
theorem frameSound_receiveBytes (hs : s.side.sampled = []) {bytes : List Byte} (hb : bytes ≠ []) :
    frameSound (receiveBytes bytes s).side = true := by
  obtain ⟨b, bs, rfl⟩ := List.exists_cons_of_ne_nil hb
  unfold receiveBytes
  split
  · exact frameSound_takeFrame _ _
  · next n hn =>
    split
    · next short =>
      have known : (linkParameters b.toNat).any (fun n => decide (bs.length < n)) = true := by
        rw [show linkParameters b.toNat = some n from hn]
        exact decide_eq_true short
      have fresh : decide (([] : List Bool).length < 8 ∧ s.side.sampled = []) = true := by rw [hs]; rfl
      show (decide (([] : List Bool).length < 8 ∧ s.side.sampled = []) && _) = true
      rw [fresh]
      exact known
    · exact frameSound_takeFrame _ _

theorem frameSound_clockBit (h : frameSound s.side = true) (b : Bool) : frameSound (clockBit s b).side = true := by
  unfold clockBit
  split
  · exact h
  · split
    · exact h
    · next reply hf =>
      rw [frameSound, hf] at h ⊢
      exact h
    · next bytes bits hf =>
      rw [frameSound, hf] at h
      obtain ⟨fresh, known⟩ := Bool.and_eq_true_iff.1 h
      obtain ⟨short, sampled⟩ := of_decide_eq_true fresh
      split
      · next more =>
        have longer : (bits ++ [b]).length < 8 := by
          rw [List.length_append, List.length_singleton]
          omega
        exact Bool.and_eq_true_iff.2 ⟨decide_eq_true ⟨longer, sampled⟩, known⟩
      · exact frameSound_receiveBytes sampled (List.append_ne_nil_of_right_ne_nil _ nofun)

theorem frameSound_clockBits (h : frameSound s.side = true) (bits : List Bool) :
    frameSound (clockBits bits s).side = true :=
  List.foldlRecOn bits clockBit (motive := fun t => frameSound t.side = true) h fun _ ht b _ => frameSound_clockBit ht b

theorem frameSound_assertSelect (h : frameSound s.side = true) : frameSound (assertSelect s).side = true := by
  unfold assertSelect
  split
  · exact h
  · rfl

theorem frameSound_runLink (h : frameSound s.side = true) (bytes : List Byte) (op : State → LinkResult) :
    frameSound (runLink bytes op s).side = true := by
  unfold runLink
  repeat' split
  · exact h
  · rfl
  · exact frameSound_takeLink op s
  · exact frameSound_clockBits h _

theorem frameSound_receiveRequest (h : frameSound s.side = true) (b : Byte) :
    frameSound (receiveRequest b s).side = true := by
  unfold receiveRequest
  repeat' split
  · exact h
  · rfl
  · exact frameSound_clockBits h _

theorem frameSound_arrival (h : frameSound s.side = true) {c : Instr} {t : State} (hc : isLinkArrival c = true)
    (ht : exec c s = .next t) : frameSound t.side = true := by
  have whole (hl : c.linkBytes.isSome = true) : frameSound t.side = true := by
    obtain ⟨bytes, hb⟩ := Option.isSome_iff_exists.1 hl
    obtain rfl := Host.Outcome.next.inj ((exec_of_linkBytes c s bytes hb).symm.trans ht)
    exact frameSound_runLink h bytes _
  cases c with
  | unknownRequest b =>
    obtain rfl := Host.Outcome.next.inj ht
    exact frameSound_receiveRequest h b
  | slselAssertion bits =>
    obtain rfl := Host.Outcome.next.inj ht
    exact frameSound_clockBits (frameSound_assertSelect h) bits
  | _ => exact whole hc

end

/-! ### Every command -/

/-- The records of both ports are in their ranges. -/
structure BothPortsFine (s : State) : Prop where
  port : PortFine s.port
  side : frameSound s.side = true

theorem portsSound_iff (s : State) : PortsSound s ↔ BothPortsFine s :=
  ⟨fun ⟨target, side, command⟩ => ⟨⟨target, command⟩, side⟩, fun ⟨⟨target, command⟩, side⟩ => ⟨target, side, command⟩⟩

section
variable {s : State}

theorem BothPortsFine.ofView {t : State} {view : State → State} (hs : BothPortsFine s)
    (hv : ∀ u, (view u).port = u.port ∧ (view u).side = u.side) (e : view t = view s) : BothPortsFine t := by
  have port := (hv t).1.symm.trans ((congrArg State.port e).trans (hv s).1)
  have side := (hv t).2.symm.trans ((congrArg State.side e).trans (hv s).2)
  exact ⟨port ▸ hs.port, side ▸ hs.side⟩

theorem BothPortsFine.supplyFall (hs : BothPortsFine s) : BothPortsFine (supplyFall s) := by
  by_cases hp : s.power = .off
  · rwa [Machine.supplyFall, if_pos hp]
  · rw [supplyFall_eq hp]
    exact ⟨portFine_initial, rfl⟩

theorem BothPortsFine.supplyRise (hs : BothPortsFine s) : BothPortsFine (supplyRise s) := by
  have awake (w : Byte) (t : State) : BothPortsFine (postBoth .wake w (Safety.mainAtPowerUp .active t)) := by
    rw [postBoth_eq]
    exact ⟨portFine_initial, rfl⟩
  unfold Machine.supplyRise
  split
  · cases hk : s.retention
    · rw [startUp_of_kept hk]
      exact awake _ _
    · rw [startUp_of_lost hk]
      exact awake _ _
  · exact hs

theorem BothPortsFine.busResetOp (hs : BothPortsFine s) : BothPortsFine (busResetOp s) := by
  by_cases hp : s.power = .off
  · rw [busResetOp_of_off hp]
    exact ⟨hs.port, hs.side⟩
  · have side (t : State) : (gameSideReset t).side = t.side := by
      simp only [gameSideReset, resetRumble, resetMixer, resetRing, resetVoices]
    have store : (busResetStore { s with resetPin := true }).side = s.side :=
      (congrArg State.side (outsideStore_busResetStore { s with resetPin := true }) :)
    have records : BothPortsFine (gameSideReset (busResetStore { s with resetPin := true })) :=
      ⟨gameSideReset_port _ ▸ portFine_initial, by rw [side, store]; exact hs.side⟩
    rw [busResetOp_of_on hp]
    unfold grantAfterReset
    split
    · exact records.ofView (view := outsideStore) (fun _ => ⟨rfl, rfl⟩) (outsideStore_grantPending _)
    · exact records

theorem portsFine_arrivals : KeptByArrivals BothPortsFine where
  fall _ hs := hs.supplyFall
  reset _ hs := hs.busResetOp
  release _ hs := ⟨hs.port, hs.side⟩
  loss s hs := by
    unfold retentionLossOp
    split
    · exact ⟨hs.port, hs.side⟩
    · exact hs
  second s hs :=
    have port : (secondArrivalOp s).port = s.port := (congrArg State.port (outsideCalendar_secondArrivalOp s) :)
    have side : (secondArrivalOp s).side = s.side := (congrArg State.side (outsideCalendar_secondArrivalOp s) :)
    ⟨port ▸ hs.port, side ▸ hs.side⟩
  countdown e s hs := hs.ofView (view := outsideAlarms) (fun _ => ⟨rfl, rfl⟩) (outsideAlarms_countdownExpiryOp s e)
  frame first s hs := by
    have sound : outsideSound (envelopeFrames first false (mixFrame (envelopeFrames first true (countFrame s))))
        = outsideSound (countFrame s) := by simp
    have counted : BothPortsFine (countFrame s) := ⟨hs.port, hs.side⟩
    unfold frameArrivalOp
    split
    · exact counted
    · exact counted.ofView (view := outsideSound) (fun _ => ⟨rfl, rfl⟩) sound
  voice v s hs := hs.ofView (view := outsideSound) (fun _ => ⟨rfl, rfl⟩) (outsideSound_voiceExpiry s v)
  stream s hs := hs.ofView (view := outsideSound) (fun _ => ⟨rfl, rfl⟩) (outsideSound_streamExpiry s)
  envelope v s hs := hs.ofView (view := outsideSound) (fun _ => ⟨rfl, rfl⟩) (outsideSound_envelopeExpiry s v)
  walk k s hs := hs.ofView (view := outsideStore) (fun _ => ⟨rfl, rfl⟩) (outsideStore_walkPages s k)
  driver _ h hs := hs.ofView (view := outsideDriver) (fun _ => ⟨rfl, rfl⟩) h

theorem BothPortsFine.exec {c : Instr} {t : State} (hs : BothPortsFine s) (ht : exec c s = .next t) : BothPortsFine t := by
  by_cases hb : isBusStrobe c = true
  · have side := congrArg (fun x => x.2.2.2.2.2.2.2.2.1) (beyondGame_strobe hb ht)
    have side : t.side = s.side := side
    exact ⟨hs.port.strobe hb ht, side ▸ hs.side⟩
  · by_cases hl : isLinkArrival c = true
    · have port : t.port = s.port := congrArg Prod.fst (beyondSystem_arrival hl ht)
      exact ⟨port ▸ hs.port, frameSound_arrival hs.side hl ht⟩
    · exact kept_of_arrival portsFine_arrivals hb hl (fun _ => hs.supplyRise) ⟨hs.port, rfl⟩ hs ht

end
end Sys2Proof.Safety

open Sys2Proof Sys2Proof.Machine Sys2Proof.Safety

/-- Settles O60: the ports' records through strobes, frames and arrivals, and the supply's agreement through each. -/
theorem portsAndSupplyStaySound : Obligations.PortsAndSupplyStaySound := by
  intro s s' hp hs hstep
  unfold step at hstep
  split at hstep
  · obtain rfl := Host.Outcome.next.inj hstep
    have ports : BothPortsFine (engineClock s) := ((portsSound_iff s).1 hp).ofView (view := outsideSound)
      (fun _ => ⟨rfl, rfl⟩) (outsideSound_engineClock s)
    exact ⟨(portsSound_iff _).2 ports, hs.engineClock⟩
  · next rest _ =>
    have ports : BothPortsFine { s with pending := rest } := ⟨((portsSound_iff s).1 hp).port, ((portsSound_iff s).1 hp).side⟩
    have supply : SupplySound { s with pending := rest } := hs
    exact ⟨(portsSound_iff s').2 (ports.exec hstep), supply.exec hstep⟩
end

section
/-! Frames of the side link bit by bit (R179, R180): gathering, taking, the reply, and the row of a request as its bits. -/

namespace Sys2Proof.Safety

open Sys2Proof.Machine

/-! ### Gathering -/

/-- The state with its frame at `f`. -/
def atFrame (f : SideFrame) (s : State) : State := { s with side := { s.side with frame := f } }

theorem clockBits_append (a b : List Bool) (s : State) : clockBits (a ++ b) s = clockBits b (clockBits a s) :=
  List.foldl_append

theorem clockIn_cons (b : Byte) (bs : List Byte) (s : State) : clockIn (b :: bs) s = clockIn bs (clockIn [b] s) := by
  rw [clockIn, clockIn, clockIn, List.flatMap_cons, clockBits_append, List.flatMap_cons, List.flatMap_nil, List.append_nil]

section
variable {s : State} {bytes : List Byte} {n : Nat}

/-- Fewer than eight bits are only kept. -/
theorem clockBits_gathers (hp : s.power ≠ .off) {bs bits : List Bool} (hl : bs.length + bits.length < 8) :
    clockBits bits (atFrame (.receiving bytes bs) s) = atFrame (.receiving bytes (bs ++ bits)) s := by
  induction bits generalizing bs with
  | nil => rw [List.append_nil]; rfl
  | cons b bits ih =>
    rw [List.length_cons] at hl
    have one : clockBit (atFrame (.receiving bytes bs) s) b = atFrame (.receiving bytes (bs ++ [b])) s :=
      (if_neg hp).trans (if_pos (by omega))
    have next : clockBits (b :: bits) (atFrame (.receiving bytes bs) s) =
        clockBits bits (clockBit (atFrame (.receiving bytes bs) s) b) := rfl
    rw [next, one, ih (by rw [List.length_append, List.length_singleton]; omega), List.append_assoc, List.singleton_append]

/-- Bytes short of a whole request are only kept. -/
theorem clockIn_gathers (hp : s.power ≠ .off) {rest : List Byte}
    (hn : ∀ b ∈ (bytes ++ rest).head?, linkParameters b.toNat = some n) (hl : bytes.length + rest.length ≤ n) :
    clockIn rest (atFrame (.receiving bytes []) s) = atFrame (.receiving (bytes ++ rest) []) s := by
  induction rest generalizing bytes with
  | nil => rw [List.append_nil]; rfl
  | cons b rest ih =>
    rw [List.length_cons] at hl
    have split : bytes ++ b :: rest = (bytes ++ [b]) ++ rest := by rw [List.append_assoc, List.singleton_append]
    have head : linkParameters ((bytes ++ [b]).headD 0).toNat = some n := by
      cases bytes with
      | nil => exact hn b rfl
      | cons c cs => exact hn c rfl
    have length : (bytes ++ [b]).length = bytes.length + 1 := List.length_append
    have one : clockIn [b] (atFrame (.receiving bytes []) s) = atFrame (.receiving (bytes ++ [b]) []) s := by
      rw [clockIn_receiving (s := atFrame (.receiving bytes []) s) hp rfl, receiveBytes, head]
      exact if_pos (by rw [length]; omega)
    rw [clockIn_cons, one, split]
    exact ih (split ▸ hn) (by rw [length]; omega)

theorem atFrame_same {f : SideFrame} (hf : s.side.frame = f) : atFrame f s = s := by
  rw [atFrame, ← hf]

/-- The last byte of a request has it taken. -/
theorem clockIn_takes {i : Instr} (hp : s.power ≠ .off) (hb : i.linkBytes = some bytes)
    (hf : s.side.frame = .receiving [] []) : clockIn bytes s = takeLink (linkEffect i) s := by
  have decoded := decodeLink_of_linkBytes hb
  cases bytes with
  | nil => cases decoded
  | cons b ps =>
    have known := linkParameters_of_linkBytes hb
    obtain ⟨init, last, e⟩ : ∃ init last, b :: ps = init ++ [last] :=
      ⟨_, _, (List.dropLast_append_getLast (List.cons_ne_nil b ps)).symm⟩
    have length : init.length = ps.length := by
      have := congrArg List.length e
      rw [List.length_append, List.length_cons, List.length_singleton] at this
      omega
    have heads : ∀ c ∈ init.head?, linkParameters c.toNat = some ps.length := by
      cases init with
      | nil => nofun
      | cons d ds =>
        obtain rfl := (List.cons.inj e).1
        rintro _ ⟨⟩
        exact known
    have gathered : clockIn init s = atFrame (.receiving init []) s := by
      have gathers := clockIn_gathers (bytes := []) hp heads (by rw [List.length_nil, length, Nat.zero_add])
      rwa [atFrame_same hf] at gathers
    have cut : clockIn (init ++ [last]) s = clockIn [last] (clockIn init s) := by
      rw [clockIn, List.flatMap_append, clockBits_append]
      rfl
    have head : linkParameters ((b :: ps).headD 0).toNat = some ps.length := known
    have whole : ¬(b :: ps).length ≤ ps.length := by rw [List.length_cons]; omega
    rw [e, cut, gathered, clockIn_receiving (s := atFrame (.receiving init []) s) hp rfl, ← e, receiveBytes, head]
    dsimp only
    rw [if_neg whole, takeFrame, decoded]
    exact congrArg (takeLink (linkEffect i)) (atFrame_same hf)

end

/-! ### Replies -/

theorem bitsOf_length (b : Byte) : (bitsOf b).length = 8 := by simp [bitsOf]

theorem replyBit_cons_lt (b : Byte) (bs : List Byte) {k : Nat} (h : k < 8) :
    (bitsOf b)[k]? = some (replyBit (b :: bs) k) := by
  have byte : k / 8 = 0 := Nat.div_eq_of_lt h
  rw [replyBit, byte, Nat.mod_eq_of_lt h]
  simp [bitsOf, h]

theorem replyBit_cons_ge (b : Byte) (bs : List Byte) {k : Nat} (h : 8 ≤ k) : replyBit (b :: bs) k = replyBit bs (k - 8) := by
  obtain ⟨j, rfl⟩ := Nat.exists_eq_add_of_le h
  rw [Nat.add_sub_cancel_left, replyBit, replyBit, Nat.add_comm 8 j, Nat.add_div_right j (by decide), Nat.add_mod_right]
  rfl

/-- A reply is clocked out byte after byte, and reads FFh beyond its end. -/
theorem replyBit_eq (reply : List Byte) (k : Nat) :
    replyBit reply k = (reply.flatMap bitsOf)[k]?.getD true := by
  induction reply generalizing k with
  | nil =>
    have bit : ∀ j : Fin 8, (0xFF : Byte).getLsbD (7 - j.val) = true := by decide
    exact bit ⟨k % 8, Nat.mod_lt _ (by decide)⟩
  | cons b bs ih =>
    rw [List.flatMap_cons]
    rcases Nat.lt_or_ge k 8 with h | h
    · rw [List.getElem?_append_left (by rw [bitsOf_length]; exact h), replyBit_cons_lt b bs h]
      rfl
    · rw [List.getElem?_append_right (by rw [bitsOf_length]; exact h), replyBit_cons_ge b bs h, ih, bitsOf_length]

theorem flatMap_bitsOf_length (bs : List Byte) : (bs.flatMap bitsOf).length = 8 * bs.length := by
  induction bs with
  | nil => rfl
  | cons b bs ih =>
    rw [List.flatMap_cons, List.length_append, ih, bitsOf_length, List.length_cons]
    omega

/-- What is sampled from a reply with `k` bits clocked. -/
theorem sampledBits (reply : List Byte) (k : Nat) : (List.range k).map (replyBit reply) =
    (reply.flatMap bitsOf ++ List.replicate (k - 8 * reply.length) true).take k := by
  refine List.ext_getElem? fun j => ?_
  have length := flatMap_bitsOf_length reply
  rw [List.getElem?_map, List.getElem?_take]
  rcases Nat.lt_or_ge j k with h | h
  · rw [List.getElem?_range h, if_pos h, Option.map_some, replyBit_eq]
    rcases Nat.lt_or_ge j (8 * reply.length) with inside | beyond
    · rw [List.getElem?_append_left (length.symm ▸ inside), List.getElem?_eq_getElem (length.symm ▸ inside)]
      rfl
    · rw [List.getElem?_append_right (length.symm ▸ beyond), List.getElem?_eq_none (length.symm ▸ beyond), length,
        List.getElem?_replicate, if_pos (by omega)]
      rfl
  · rw [if_neg (Nat.not_lt.2 h), List.getElem?_eq_none (by rw [List.length_range]; exact h)]
    rfl

/-! ### A request taken -/

/-- A request leaves what has been sampled. -/
theorem linkEffect_sampled (i : Instr) (s : State) : (linkEffect i s).1.side.sampled = s.side.sampled := by
  have kept {view : State → State} (hv : ∀ u, (view u).side = u.side) (e : view (linkEffect i s).1 = view s) :
      (linkEffect i s).1.side.sampled = s.side.sampled :=
    congrArg SideLink.sampled ((hv _).symm.trans ((congrArg State.side e).trans (hv s)))
  cases i with
  | hold | release => exact kept (view := outsideStore) (fun _ => rfl) (by simp [linkEffect, noData])
  | slotRead n o c =>
    show (slotReadOp n o c s).1.side.sampled = s.side.sampled
    simp only [slotReadOp]
    repeat' split
    all_goals rfl
  | readRecord r x =>
    show (readRecordOp r x s).1.side.sampled = s.side.sampled
    unfold readRecordOp
    repeat' split
    all_goals rfl
  | lineEnable _ e =>
    show (lineEnableOp .system e s).1.side.sampled = s.side.sampled
    unfold lineEnableOp
    split <;> rfl
  | clockSet => exact kept (view := outsideCalendar) (fun _ => rfl) (by simp [linkEffect, noData])
  | alarmArm | alarmDisarm => exact kept (view := outsideAlarms) (fun _ => rfl) (by simp [linkEffect, noData])
  | silence | battery | powerMode =>
    exact kept (view := outsideSupply) (fun _ => rfl) (by simp [linkEffect, noData])
  | _ => rfl

/-- A taken request: the frame at its reply, nothing more sampled, the main supply present. -/
theorem takeLink_taken (i : Instr) {s : State} (hp : s.power ≠ .off) :
    let u := takeLink (linkEffect i) s
    u.power ≠ .off ∧ u.side.frame = .taken (replyOf u) ∧ u.side.sampled = s.side.sampled := by
  have on := power_link.effect i s hp hp
  refine ⟨power_link.takeLink i hp hp, ?_, ?_⟩
  · rw [takeLink_eq _ on]
    rfl
  · rw [takeLink_eq _ on]
    exact linkEffect_sampled i s

/-- Bits after the taking only clock the reply out (R179). -/
theorem clockBits_reply {s : State} {reply : List Byte} (hp : s.power ≠ .off) (hf : s.side.frame = .taken reply)
    (hs : s.side.sampled = []) (bits : List Bool) : clockBits bits s = { s with side := { s.side with
      sampled := (reply.flatMap bitsOf ++ List.replicate (bits.length - 8 * reply.length) true).take bits.length } } := by
  rw [clockBits_taken bits hp hf, hs, List.length_nil, List.nil_append, ← sampledBits]
  simp only [Nat.zero_add]

theorem assertSelect_of_on {s : State} (hp : s.power ≠ .off) :
    assertSelect s = { s with side := { s.side with frame := .receiving [] [], sampled := [] } } := if_neg hp

/-- The bits of a whole request after an assertion have it taken. -/
theorem clockBits_request {i : Instr} {bytes : List Byte} {s : State} (hb : i.linkBytes = some bytes) (hp : s.power ≠ .off) :
    clockBits (bytes.flatMap bitsOf) (assertSelect s) = takeLink (linkEffect i) (assertSelect s) := by
  rw [assertSelect_of_on hp]
  exact clockIn_takes hp hb rfl

/-- While its end has not come, SLD carries the next bit of the reply. -/
theorem drivenSld_reply {s : State} {reply : List Byte} {bits : List Bool} (hp : s.power ≠ .off)
    (hf : s.side.frame = .taken reply) (hs : s.side.sampled = []) (inside : bits.length < 8 * reply.length) :
    drivenSld (clockBits bits s).side = (reply.flatMap bitsOf)[bits.length]? := by
  have length : bits.length < (reply.flatMap bitsOf).length := by rw [flatMap_bitsOf_length]; exact inside
  have sampled : ((reply.flatMap bitsOf ++ List.replicate (bits.length - 8 * reply.length) true).take bits.length).length
      = bits.length := List.length_take_of_le (by rw [List.length_append]; omega)
  rw [clockBits_reply hp hf hs, drivenSld]
  simp only [hf]
  rw [sampled, replyBit_eq, List.getElem?_eq_getElem length, Option.getD_some]

/-- Bits that fall short of a whole request are only kept. -/
theorem clockBits_short {s : State} {b : Byte} {ps : List Byte} {bits : List Bool} {n : Nat} (hp : s.power ≠ .off)
    (hf : s.side.frame = .receiving [] []) (hl : bits.length < 8) (hn : linkParameters b.toNat = some n) (short : ps.length < n) :
    clockBits ((b :: ps).flatMap bitsOf ++ bits) s = atFrame (.receiving (b :: ps) bits) s := by
  have bytes : clockIn (b :: ps) s = atFrame (.receiving (b :: ps) []) s := by
    have gathers := clockIn_gathers (bytes := []) (rest := b :: ps) hp (by rintro _ ⟨⟩; exact hn)
      (by rw [List.length_nil, List.length_cons]; omega)
    rwa [atFrame_same hf] at gathers
  have kept := clockBits_gathers (bytes := b :: ps) (bs := []) (bits := bits) hp (by rw [List.length_nil, Nat.zero_add]; exact hl)
  rw [clockBits_append]
  exact (congrArg (clockBits bits) bytes).trans kept

/-- A frame that has begun lasts until its release. -/
theorem clockBits_frame {s : State} (hp : s.power ≠ .off) (hf : s.side.frame ≠ .idle) (bits : List Bool) :
    (clockBits bits s).power ≠ .off ∧ (clockBits bits s).side.frame ≠ .idle := by
  have taken (bytes : List Byte) (t : State) : (takeFrame bytes t).side.frame ≠ .idle := by
    have link (op : State → LinkResult) : (takeLink op t).side.frame ≠ .idle := by
      simp only [takeLink]
      split
      · unfold postSystem
        split <;> exact nofun
      · exact nofun
    unfold takeFrame
    split <;> exact link _
  have one (t : State) (b : Bool) (ht : t.side.frame ≠ .idle) : (clockBit t b).side.frame ≠ .idle := by
    unfold clockBit receiveBytes
    repeat' split
    · exact ht
    · exact ht
    · next h => exact fun e => absurd (h.symm.trans e) nofun
    · exact nofun
    · exact taken _ _
    · exact nofun
    · exact taken _ _
  refine ⟨power_link.clockBits bits hp, ?_⟩
  exact List.foldlRecOn bits clockBit (motive := fun t => t.side.frame ≠ .idle) hf fun t ht b _ => one t b ht

/-- A request row in a frame that has begun is its bytes clocked in. -/
theorem runLink_eq_clockIn {i : Instr} {bytes : List Byte} {s : State} (hb : i.linkBytes = some bytes)
    (hp : s.power ≠ .off) (hf : s.side.frame ≠ .idle) : runLink bytes (linkEffect i) s = clockIn bytes s := by
  rw [runLink, if_neg hp]
  split
  · next h => exact absurd h hf
  · next h => exact (clockIn_takes hp hb h).symm
  · rfl

end Sys2Proof.Safety

open Sys2Proof Sys2Proof.Machine Sys2Proof.Safety

/-- Settles O6: in a frame that has begun the row is its bytes; with SLSEL released, a whole selection. -/
theorem requestIsItsBytes : Obligations.RequestIsItsBytes := by
  intro i bytes s hb hp
  have begun := assertSelect_of_on hp
  constructor
  · intro before
    obtain ⟨on, busy⟩ := clockBits_frame (s := assertSelect s) (by rw [begun]; exact hp) (by rw [begun]; exact nofun) before
    have row := runLink_eq_clockIn hb on busy
    have bits : exec (.slselAssertion (before ++ bytes.flatMap bitsOf)) s
        = .next (clockBits (bytes.flatMap bitsOf) (clockBits before (assertSelect s))) :=
      congrArg Host.Outcome.next (clockBits_append ..)
    rw [bits]
    exact (exec_of_linkBytes i _ bytes hb).trans (congrArg Host.Outcome.next row)
  · intro b hf
    obtain ⟨on, taken, fresh⟩ := takeLink_taken i (s := assertSelect s) (by rw [begun]; exact hp)
    have fresh : (takeLink (linkEffect i) (assertSelect s)).side.sampled = [] := fresh.trans (by rw [begun])
    have request := clockBits_request hb hp
    have row := runLink_idle bytes (linkEffect i) hp hf
    show exec i s = .next (releaseSelect (clockBits (bytes.flatMap bitsOf
      ++ List.replicate (8 * (replyOf (clockBits (bytes.flatMap bitsOf) (assertSelect s))).length) b) (assertSelect s)))
    rw [clockBits_append, request, exec_of_linkBytes i s bytes hb, row]
    generalize takeLink (linkEffect i) (assertSelect s) = u at on taken fresh
    rw [clockBits_reply on taken fresh, List.length_replicate, Nat.sub_self, List.replicate_zero, List.append_nil,
      ← flatMap_bitsOf_length, List.take_length, readOut, taken]

/-- Settles O12: gathering before the taking, the reply's bits after it. -/
theorem framesBeginAndEnd : Obligations.FramesBeginAndEnd := by
  refine ⟨fun s => ⟨rfl, rfl⟩, fun b => ?_, fun s hp => congrArg Host.Outcome.next (assertSelect_of_on hp),
    ?_, ?_⟩
  · simp [bitsOf, BitVec.getMsbD, List.range, List.range.loop]
  · intro b ps bits s hp hl n hn short
    have gathered : clockBits ((b :: ps).flatMap bitsOf ++ bits) (assertSelect s)
        = { s with side := { s.side with frame := .receiving (b :: ps) bits, sampled := [] } } := by
      rw [clockBits_short (by rw [assertSelect_of_on hp]; exact hp) (by rw [assertSelect_of_on hp]) hl hn short,
        assertSelect_of_on hp]
      rfl
    refine ⟨congrArg Host.Outcome.next gathered, ?_, ?_⟩
    · show drivenSld (clockBits ((b :: ps).flatMap bitsOf ++ bits) (assertSelect s)).side = none
      rw [gathered]
      rfl
    · show releaseSelect (clockBits ((b :: ps).flatMap bitsOf ++ bits) (assertSelect s)) = _
      rw [gathered]
      rfl
  · intro i bytes s hb hp extra
    have request := clockBits_request hb hp
    obtain ⟨on, taken, fresh⟩ := takeLink_taken i (s := assertSelect s) (by rw [assertSelect_of_on hp]; exact hp)
    have fresh : (takeLink (linkEffect i) (assertSelect s)).side.sampled = [] := fresh.trans (by rw [assertSelect_of_on hp])
    have longer : clockBits (bytes.flatMap bitsOf ++ extra) (assertSelect s)
        = clockBits extra (takeLink (linkEffect i) (assertSelect s)) := by rw [clockBits_append, request]
    have whole : after (.slselAssertion (bytes.flatMap bitsOf)) s = takeLink (linkEffect i) (assertSelect s) := request
    have beyond : exec (.slselAssertion (bytes.flatMap bitsOf ++ extra)) s
        = .next (clockBits extra (takeLink (linkEffect i) (assertSelect s))) := congrArg Host.Outcome.next longer
    have driven : after (.slselAssertion (bytes.flatMap bitsOf ++ extra)) s
        = clockBits extra (takeLink (linkEffect i) (assertSelect s)) := longer
    rw [driven, beyond, whole]
    generalize takeLink (linkEffect i) (assertSelect s) = u at on taken fresh
    exact ⟨taken, congrArg Host.Outcome.next (clockBits_reply on taken fresh extra), drivenSld_reply on taken fresh⟩

end

section
/-! The data path of the main bus port: SELECT, data-port writes and data-port reads for every target (R174 to R178). -/

namespace Sys2Proof.Safety

open Sys2Proof.Machine

section
variable {s : State}

/-! ### SELECT -/

/-- SELECT at a ready port: its effect and its report. -/
theorem exec_select {r : Bool} {c x : Byte} {a : Half} {t : State} {o : OutcomeCode} (hs : busReady s)
    (hop : selectOp c x a s = (t, o)) : exec (.select r c x a) s = .next (reported r 0x01 o t) :=
  next_runBus r 0x01 hs (by simp) hop

theorem selectOp_of_unknown {c : Byte} (x : Byte) (a : Half) (s : State) (h : 7 ≤ c.toNat) :
    selectOp c x a s = (s, .noSuch) := by
  unfold selectOp
  split
  case h_8 => rfl
  all_goals omega

theorem selectStage_of_held (a : Nat) (h : storeHeld s = true) : selectStage a s = (s, .held) := if_pos h

theorem selectStage_of_none (a : Nat) (h : storeHeld s = false) (hn : openStaging s = none) :
    selectStage a s = (s, .state) := by
  rw [selectStage, if_neg (h ▸ Bool.false_ne_true), hn]
  rfl

theorem selectStage_of_some (a : Nat) (h : storeHeld s = false) {ps : List Page} (hn : openStaging s = some ps) :
    selectStage a s = (selectTarget .stage (a % (ps.length * 512)) (listByte s.pages ps (a % (ps.length * 512))) s, .ok) := by
  rw [selectStage, if_neg (h ▸ Bool.false_ne_true), hn]

theorem selectSlot_of_held (x : Byte) (a : Nat) (h : storeHeld s = true) : selectSlot x a s = (s, .held) := if_pos h

theorem selectSlot_of_none {x : Byte} (a : Nat) (h : storeHeld s = false) (hn : slotAt s x = none) :
    selectSlot x a s = (s, if 8 ≤ x.toNat then .noSuch else .state) := by
  rw [selectSlot, if_neg (h ▸ Bool.false_ne_true)]
  rcases Nat.lt_or_ge x.toNat 8 with hx | hx
  · rw [slotAt_of_lt s x hx] at hn
    rw [indexBelow_of_lt hx, if_neg (Nat.not_le.2 hx)]
    dsimp only
    rw [hn]
    rfl
  · rw [indexBelow_of_le hx, if_pos hx]
    rfl

theorem selectSlot_of_some {x : Byte} (a : Nat) (h : storeHeld s = false) {d : SlotData} (hd : slotAt s x = some d) :
    selectSlot x a s = (selectTarget (.slot (Fin.ofNat 8 x.toNat)) (a % (d.pages.length * 512))
      (listByte s.pages d.pages (a % (d.pages.length * 512))) s, .ok) := by
  rcases Nat.lt_or_ge x.toNat 8 with hx | hx
  · have index : Fin.ofNat 8 x.toNat = ⟨x.toNat, hx⟩ := Fin.ext (Nat.mod_eq_of_lt hx)
    rw [slotAt_of_lt s x hx] at hd
    rw [selectSlot, if_neg (h ▸ Bool.false_ne_true), indexBelow_of_lt hx, index]
    dsimp only
    rw [hd]
  · rw [slotAt_of_le s x hx] at hd
    cases hd

theorem selectInfo_of_copy {x : Byte} {a : Half} {k : RecordId} {copy : List Byte} (hk : recordOf (Half.hi a) = some k)
    (hc : recordCopy .game k x s = some copy) : selectInfo x a s = (selectTarget (.info k x copy)
      ((Half.lo a).toNat % recordLength k) (copy.getD ((Half.lo a).toNat % recordLength k) 0xFF) s, .ok) := by
  rw [selectInfo, hk]
  dsimp only
  rw [hc, ← recordCopy_length hc]

theorem selectInfo_of_unknown {x : Byte} {a : Half} (h : 14 ≤ (Half.hi a).toNat) : selectInfo x a s = (s, .noSuch) := by
  rw [selectInfo, recordOf_of_le h]
  rfl

/-- A record of slots, alarms or voices with an index of no member. -/
theorem selectInfo_of_index {x : Byte} {a : Half}
    (h : ((Half.hi a).toNat = 2 ∨ (Half.hi a).toNat = 7) ∧ 8 ≤ x.toNat ∨ (Half.hi a).toNat = 9 ∧ 6 ≤ x.toNat) :
    selectInfo x a s = (s, .noSuch) := by
  have missing {k : RecordId} (hk : recordOf (Half.hi a) = some k) (hc : recordCopy .game k x s = none) :
      selectInfo x a s = (s, .noSuch) := by
    rw [selectInfo, hk]
    dsimp only
    rw [hc]
    rfl
  have known {n : Nat} {k : RecordId} (hn : (Half.hi a).toNat = n) (hk : recordOf (BitVec.ofNat 8 n) = some k) :
      recordOf (Half.hi a) = some k := by
    rw [← hk, ← hn, BitVec.ofNat_toNat, BitVec.setWidth_eq]
  rcases h with ⟨slot | alarm, hx⟩ | ⟨voice, hx⟩
  · exact missing (known slot rfl) (congrArg (Option.map _) (indexBelow_of_le hx))
  · exact missing (known alarm rfl) (congrArg (Option.map _) (indexBelow_of_le hx))
  · exact missing (known voice rfl) (congrArg (Option.map _) (indexBelow_of_le hx))

/-! ### Accesses of the data port -/

theorem refuseAccess_eq (o : OutcomeCode) (hp : s.power ≠ .off) : refuseAccess o s = accessRefused o s := postGame_of_on _ _ hp

theorem refuseRead_eq (o : OutcomeCode) (hp : s.power ≠ .off) : refuseRead o s = accessRefused o { s with busData := 0xFF } :=
  postGame_of_on _ _ hp

theorem advanceCounter_eq (n : Nat) (s : State) :
    advanceCounter n s = { s with port := { s.port with counter := movedCounter s n } } := by
  rw [← moveCounter_eq]
  rfl

theorem latchRead_eq (n : Nat) (load : Nat → Byte) (s : State) : latchRead n load s = { s with
    busData := s.port.latch, port := { s.port with counter := movedCounter s n, latch := load (movedCounter s n) } } := by
  rw [← moveCounter_eq]
  rfl

theorem stageWrite_of_held (b : Byte) (h : storeHeld s = true) : stageWrite b s = refuseAccess .held s := if_pos h

theorem stageWrite_of_none (b : Byte) (h : storeHeld s = false) (hn : openStaging s = none) :
    stageWrite b s = refuseAccess .state s := by
  rw [stageWrite, if_neg (h ▸ Bool.false_ne_true), hn]

theorem stageWrite_of_some (b : Byte) (h : storeHeld s = false) {ps : List Page} (hn : openStaging s = some ps) :
    stageWrite b s = { s with
      pages := writeListByte s.pages ps (s.port.counter % (ps.length * 512)) b
      port := { s.port with counter := movedCounter s (ps.length * 512) } } := by
  rw [stageWrite, if_neg (h ▸ Bool.false_ne_true), hn]
  exact advanceCounter_eq _ _

theorem targetWrite_stage (b : Byte) (ht : s.port.target = .stage) : targetWrite b s = stageWrite b s := by
  rw [targetWrite, ht]

theorem targetWrite_wave (b : Byte) (ht : s.port.target = .wave) : targetWrite b s = { s with
    waveMem := Memory.write Config.unwrittenZero s.waveMem (s.port.counter % 256) b
    port := { s.port with counter := movedCounter s 256 } } := by
  rw [targetWrite, ht]
  exact advanceCounter_eq _ _

theorem targetWrite_pattern (b : Byte) (ht : s.port.target = .pattern) : targetWrite b s = { s with
    patternMem := Memory.write Config.unwrittenZero s.patternMem (s.port.counter % 128) b
    port := { s.port with counter := movedCounter s 128 } } := by
  rw [targetWrite, ht]
  exact advanceCounter_eq _ _

/-- What a write to a page list leaves at every byte of every page (R29). -/
theorem pageByte_writeListByte_eq {m : Memory} {ps : List Page} {i : Nat} {p : Page} (b : Byte) (hm : Memory.rising m = true)
    (hp : ps[i / 512]? = some p) (q : Page) {o : Nat} (ho : o < 512) :
    pageByte (writeListByte m ps i b) q o = if q = p ∧ o = i % 512 then b else pageByte m q o := by
  have address : pageAddress p i = pageAddress p (i % 512) := by simp [pageAddress]
  have same : pageAddress q o = pageAddress p (i % 512) ↔ q = p ∧ o = i % 512 :=
    ⟨pageAddress_inj ho (Nat.mod_lt _ (by decide)), by rintro ⟨rfl, rfl⟩; rfl⟩
  have hp : ps[i / Config.pageSize]? = some p := hp
  rw [writeListByte, hp, pageByte]
  dsimp only
  rw [Memory.read_write _ _ _ hm, address]
  exact if_congr same rfl rfl

theorem slotPortRead_of_held (n : SlotNo) (h : storeHeld s = true) : slotPortRead n s = refuseRead .held s := if_pos h

theorem slotPortRead_of_none {n : SlotNo} (h : storeHeld s = false) (hn : s.slots[n] = none) :
    slotPortRead n s = refuseRead .state s := by
  rw [slotPortRead, if_neg (h ▸ Bool.false_ne_true), hn]

theorem slotPortRead_of_some {n : SlotNo} (h : storeHeld s = false) {d : SlotData} (hd : s.slots[n] = some d) :
    slotPortRead n s = latchRead (d.pages.length * 512) (listByte s.pages d.pages) s := by
  rw [slotPortRead, if_neg (h ▸ Bool.false_ne_true), hd]

theorem stageRead_of_held (h : storeHeld s = true) : stageRead s = refuseRead .held s := if_pos h

theorem stageRead_of_none (h : storeHeld s = false) (hn : openStaging s = none) : stageRead s = refuseRead .state s := by
  rw [stageRead, if_neg (h ▸ Bool.false_ne_true), hn]

theorem stageRead_of_some (h : storeHeld s = false) {ps : List Page} (hn : openStaging s = some ps) :
    stageRead s = latchRead (ps.length * 512) (listByte s.pages ps) s := by
  rw [stageRead, if_neg (h ▸ Bool.false_ne_true), hn]

end

end Sys2Proof.Safety

open Sys2Proof Sys2Proof.Machine Sys2Proof.Safety

/-- Settles O14: target by target, from what `selectOp` answers. -/
theorem selectResults : Obligations.SelectResults := by
  intro r c x a s hs
  refine ⟨exec_select hs rfl, exec_select hs rfl, exec_select hs rfl, exec_select hs rfl,
    fun h => exec_select hs (selectOp_of_unknown x a s h), fun h => ⟨?_, ?_⟩, fun h hn => ?_, fun t ht h ho => ?_,
    fun h hn => ?_, fun d hd h => ?_, fun k hk copy hc => ?_, fun h => ?_⟩
  · exact exec_select hs (selectStage_of_held a.toNat h)
  · exact exec_select hs (selectSlot_of_held x a.toNat h)
  · exact exec_select hs (selectStage_of_none a.toNat h (openStaging_of_closed hn))
  · exact exec_select hs (selectStage_of_some a.toNat h (openStaging_of_open ht ho))
  · exact exec_select hs (selectSlot_of_none a.toNat h hn)
  · exact exec_select hs (selectSlot_of_some a.toNat h hd)
  · exact exec_select hs (selectInfo_of_copy hk hc)
  · exact exec_select hs (h.elim selectInfo_of_unknown selectInfo_of_index)

/-- Settles O15: target by target, from what `targetWrite` does. -/
theorem dataWriteResults : Obligations.DataWriteResults := by
  intro b s hs hm
  obtain ⟨hpages, hwave, -, hpattern⟩ := hm
  have write {w : State} (hw : targetWrite b s = w) : exec (.dataWrite b) s = .next w :=
    congrArg Host.Outcome.next ((dataPortWrite_ready b hs).trans hw)
  have refused (o : OutcomeCode) : refuseAccess o s = accessRefused o s := refuseAccess_eq o hs.1
  refine ⟨fun ht => write ?_, fun n ht => write ?_, fun k x copy ht => write ?_,
    fun ht => ⟨_, write (targetWrite_wave b ht), rfl, fun o => Memory.read_write _ _ _ (Memory.wf_iff.1 hwave).1⟩,
    fun ht => ⟨_, write (targetWrite_pattern b ht), rfl, fun o => Memory.read_write _ _ _ (Memory.wf_iff.1 hpattern).1⟩,
    fun ht => write ?_, fun ht hh => write ?_, fun ht hh hn => write ?_,
    fun x hx ht hh ho _ => ⟨_, write ((targetWrite_stage b ht).trans (stageWrite_of_some b hh (openStaging_of_open hx ho))), rfl,
      fun p hp q o ho => pageByte_writeListByte_eq b (Memory.wf_iff.1 hpages).1 hp q ho⟩⟩
  · rw [targetWrite, ht]
    exact refused _
  · rw [targetWrite, ht]
    exact refused _
  · rw [targetWrite, ht]
    exact refused _
  · rw [targetWrite, ht]
    exact ringWrite_frame b s
  · exact (targetWrite_stage b ht).trans ((stageWrite_of_held b hh).trans (refused _))
  · exact (targetWrite_stage b ht).trans ((stageWrite_of_none b hh (openStaging_of_closed hn)).trans (refused _))

/-- Settles O16: target by target, from what `targetRead` does. -/
theorem dataReadResults : Obligations.DataReadResults := by
  intro s hp hr
  have read {w : State} (hw : targetRead s = w) : exec .dataRead s = .next w :=
    congrArg Host.Outcome.next ((dataPortRead_ready hp hr).trans hw)
  have refused (o : OutcomeCode) : refuseRead o s = accessRefused o { s with busData := 0xFF } := refuseRead_eq o hp
  refine ⟨fun ht => read ?_, fun ht => read ?_, fun ht => read ?_, fun ht => read ?_, fun k x copy ht => read ?_,
    fun n ht => ⟨fun hh => read ?_, fun hh hn => read ?_, fun d hd hh => read ?_⟩,
    fun ht => ⟨fun hh => read ?_, fun hh hn => read ?_, fun t hx hh ho => read ?_⟩⟩
  · rw [targetRead, ht]
  all_goals rw [targetRead, ht]
  · exact refused _
  · exact latchRead_eq _ _ _
  · exact latchRead_eq _ _ _
  · exact latchRead_eq _ _ _
  · exact (slotPortRead_of_held n hh).trans (refused _)
  · exact (slotPortRead_of_none hh hn).trans (refused _)
  · exact (slotPortRead_of_some hh hd).trans (latchRead_eq _ _ _)
  · exact (stageRead_of_held hh).trans (refused _)
  · exact (stageRead_of_none hh (openStaging_of_closed hn)).trans (refused _)
  · exact (stageRead_of_some hh (openStaging_of_open hx ho)).trans (latchRead_eq _ _ _)

end

section
/-! The waveform a code selects (R102, R105, R106): user waveforms, pulses, ramps, the sine, halves, noise. -/

namespace Sys2Proof.Safety

open Sys2Proof.Machine

/-! ### The sine -/

theorem sineSample_quarter {i : Nat} (h : i ≤ 8) : sineSample i = sineQuarter.getD i 0 := if_pos h

/-- The second quarter mirrors the first. -/
theorem sineSample_mirror {i : Nat} (h : 9 ≤ i) (h' : i ≤ 16) : sineSample i = sineSample (16 - i) := by
  rw [sineSample_quarter (by omega : 16 - i ≤ 8), sineSample, if_neg (by omega), if_pos h']

/-- The second half is the first one below zero. -/
theorem sineSample_half {i : Nat} (h : 17 ≤ i) (h' : i < 32) : sineSample i = -sineSample (i - 16) := by
  rw [sineSample, if_neg (by omega), if_neg (by omega)]
  rcases Nat.lt_or_ge 24 i with late | early
  · have place : 16 - (i - 16) = 32 - i := by omega
    rw [if_neg (by omega), sineSample_mirror (by omega : 9 ≤ i - 16) (by omega), place, sineSample_quarter (by omega)]
  · rw [if_pos early, sineSample_quarter (by omega)]

theorem sineQuarter_bounds (i : Nat) : 0 ≤ sineQuarter.getD i 0 ∧ sineQuarter.getD i 0 ≤ 120 := by
  rcases Nat.lt_or_ge i 9 with h | h
  · have table : ∀ j : Fin 9, 0 ≤ sineQuarter.getD j.val 0 ∧ sineQuarter.getD j.val 0 ≤ 120 := by decide
    exact table ⟨i, h⟩
  · rw [List.getD_eq_default _ _ h]
    decide

/-! ### Noise -/

/-- Whether the two lowest bits of a generator differ, on numbers and on bits. -/
theorem lowBits_differ (x : BitVec 15) :
    (x.toNat % 2 + x.toNat / 2 % 2) % 2 = (x.getLsbD 0 != x.getLsbD 1).toNat := by
  have zero : x.getLsbD 0 = decide (x.toNat % 2 = 1) := Nat.testBit_zero x.toNat
  have one : x.getLsbD 1 = decide (x.toNat / 2 % 2 = 1) := (Nat.testBit_succ x.toNat 0).trans (Nat.testBit_zero _)
  rw [zero, one]
  rcases Nat.mod_two_eq_zero_or_one x.toNat with h | h <;> rcases Nat.mod_two_eq_zero_or_one (x.toNat / 2) with h' | h'
    <;> rw [h, h'] <;> rfl

/-- The model's generator is the 15-bit one of R106. -/
theorem noiseValue_eq {code : Nat} (h : code - 23 < 2 ^ 15) (i : Nat) :
    noiseValue (code - 23) i = (noiseGenerator code i).toNat := by
  induction i with
  | zero => exact (Nat.mod_eq_of_lt h).symm
  | succ n ih =>
    have shifted : ((noiseGenerator code n).extractLsb' 1 14).toNat = (noiseGenerator code n).toNat / 2 := by
      have small := (noiseGenerator code n).isLt
      rw [BitVec.extractLsb'_toNat, Nat.shiftRight_eq_div_pow, Nat.mod_eq_of_lt (by omega), Nat.pow_one]
    rw [noiseValue, noiseGenerator, ih, lowBits_differ, BitVec.toNat_append, shifted, BitVec.toNat_ofBool,
      ← Nat.shiftLeft_add_eq_or_of_lt (shifted ▸ BitVec.isLt _), Nat.shiftLeft_eq, Nat.add_comm]

/-- A noise sample is set by the two lowest bits of the generator. -/
theorem noiseSample_eq {code : Nat} (h : code - 23 < 2 ^ 15) (i : Nat) : noiseSample (code - 23) i
    = if (noiseGenerator code i).getLsbD 0 != (noiseGenerator code i).getLsbD 1 then 96 else -96 := by
  rw [noiseSample, noiseValue_eq h, lowBits_differ]
  cases (noiseGenerator code i).getLsbD 0 != (noiseGenerator code i).getLsbD 1 <;> rfl

/-! ### Built-in waveforms as signed bytes -/

theorem builtInSample_pulse {code : Nat} (h : code ≤ 15) (i : Nat) :
    builtInSample code i = if i < 2 * (code - 7) then 96 else -96 := if_pos (by omega)

theorem builtInSample_full {code : Nat} (h : 16 ≤ code) (h' : code ≤ 19) (i : Nat) :
    builtInSample code i = fullSample code i := (if_neg (by omega)).trans (if_pos (by omega))

theorem builtInSample_halved {code : Nat} (h : 20 ≤ code) (h' : code ≤ 23) (i : Nat) :
    builtInSample code i = (fullSample (code - 4) i).tdiv 2 :=
  (if_neg (by omega)).trans ((if_neg (by omega)).trans (if_pos (by omega)))

theorem builtInSample_noise {code : Nat} (h : 24 ≤ code) (i : Nat) :
    builtInSample code i = noiseSample (code - 23) i :=
  (if_neg (by omega)).trans ((if_neg (by omega)).trans (if_neg (by omega)))

/-- A signed byte. -/
def SignedByte (x : Int) : Prop := -128 ≤ x ∧ x < 128

theorem signedByte_level {p : Prop} [Decidable p] : SignedByte (if p then 96 else -96) := by
  unfold SignedByte
  split <;> omega

theorem signedByte_fullSample (code : Nat) {i : Nat} (h : i < 32) : SignedByte (fullSample code i) := by
  unfold SignedByte fullSample
  split
  · split <;> omega
  · omega
  · omega
  · have first (j : Nat) := sineQuarter_bounds j
    unfold sineSample
    repeat' split
    · have := first i
      omega
    · have := first (16 - i)
      omega
    · have := first (i - 16)
      omega
    · have := first (32 - i)
      omega

theorem signedByte_builtInSample (code : Nat) {i : Nat} (h : i < 32) : SignedByte (builtInSample code i) := by
  have full (c : Nat) := signedByte_fullSample c h
  unfold builtInSample
  split
  · exact signedByte_level
  · split
    · exact full code
    · split
      · have := full (code - 4)
        unfold SignedByte at this ⊢
        rw [Int.tdiv_eq_ediv]
        have positive : Int.sign 2 = 1 := rfl
        split <;> omega
      · exact signedByte_level

/-- A built-in sample as the wave table's byte (R94). -/
theorem waveSample_builtIn (s : State) {code i : Nat} (h : 8 ≤ code) (hi : i < 32) :
    (waveSample s code i).toInt = builtInSample code i := by
  obtain ⟨low, high⟩ := signedByte_builtInSample code hi
  rw [waveSample, if_neg (Nat.not_lt.2 h)]
  exact BitVec.toInt_ofInt_eq_self (by decide) low high

theorem waveSample_sine (s : State) {i : Nat} (hi : i < 32) : (waveSample s 19 i).toInt = sineSample i :=
  waveSample_builtIn s (by decide) hi

end Sys2Proof.Safety

open Sys2Proof Sys2Proof.Machine Sys2Proof.Safety

/-- Settles O40: lengths and user waveforms by the layout; each kind of built-in waveform from its samples as signed bytes. -/
theorem waveformsOfTheCodes : Obligations.WaveformsOfTheCodes := by
  refine ⟨fun code => ⟨if_neg fun h => Layout.noConfusion h.2, ?_⟩, fun s code i h => ⟨fun hl _ => ?_, fun hl _ => ?_⟩,
    fun s code i h => ?_⟩
  · simp [waveLength, Nat.lt_succ_iff]
  · rw [waveSample, if_pos (by omega), hl]
    rfl
  · rw [waveSample, if_pos (by omega), hl]
    rfl
  · have builtIn := waveSample_builtIn s h i.isLt
    have sine {j : Nat} (hj : j < 32) := waveSample_sine s hj
    dsimp only
    refine ⟨fun h' => builtIn.trans (builtInSample_pulse h' _), ?_, waveSample_builtIn s (by decide) i.isLt,
      waveSample_builtIn s (by decide) i.isLt, fun v hv => ?_, fun h1 h2 => ?_, fun h' => ?_, fun h1 h2 => ?_, fun h' => ?_⟩
    · have triangle : builtInSample 16 i.val =
          if i.val < 16 then -120 + 16 * (i.val : Int) else 120 - 16 * ((i.val : Int) - 16) := rfl
      rw [waveSample_builtIn s (by decide) i.isLt, triangle]
      exact if_congr Nat.lt_succ_iff rfl rfl
    · obtain ⟨inside, rfl⟩ := List.getElem?_eq_some_iff.1 hv
      have quarter : i.val ≤ 8 := Nat.lt_succ_iff.1 inside
      rw [sine i.isLt, sineSample_quarter quarter]
      exact List.getD_eq_getElem _ _ inside
    · rw [sine i.isLt, sine (by omega), sineSample_mirror h1 h2]
    · rw [sine i.isLt, sine (by omega), sineSample_half h' i.isLt]
    · rw [builtIn, waveSample_builtIn s (by omega) i.isLt, builtInSample_halved h1 h2, builtInSample_full (by omega) (by omega)]
    · exact builtIn.trans ((builtInSample_noise h' _).trans (noiseSample_eq (by omega) _))

end

section
/-! What a refusal leaves: the state before it, for a rumble command with the effective level formed (R172, R180, R182, R142). -/

namespace Sys2Proof.Safety

open Sys2Proof.Machine

/-- Of a state and its outcome: refused, the state is `u`. -/
def RefusalLeaves (u : State) (r : Result) : Prop := r.2.isRefusal = true → r.1 = u

section
variable {u : State}

@[simp] theorem refusalLeaves_refuse (o : OutcomeCode) (u : State) : RefusalLeaves u (refuse o u) := fun _ => rfl

theorem refusalLeaves_of_accepted {t : State} {o : OutcomeCode} (h : o.isRefusal = false) : RefusalLeaves u (t, o) :=
  fun refused => absurd (h.symm.trans refused) Bool.false_ne_true

@[simp] theorem refusalLeaves_ok (t : State) : RefusalLeaves u (t, .ok) := refusalLeaves_of_accepted (by decide)

@[simp] theorem refusalLeaves_pending (t : State) : RefusalLeaves u (t, .pending) := refusalLeaves_of_accepted (by decide)

@[simp] theorem refusalLeaves_clamped (t : State) : RefusalLeaves u (t, .clamped) := refusalLeaves_of_accepted (by decide)

@[simp] theorem refusalLeaves_clamp (p : Prop) [Decidable p] (t : State) :
    RefusalLeaves u (t, if p then .clamped else .ok) := by
  split
  · exact refusalLeaves_clamped t
  · exact refusalLeaves_ok t

end

section
variable (s : State)

/-! ### The port, the store -/

theorem refusalLeaves_selectOp (c x : Byte) (a : Half) : RefusalLeaves s (selectOp c x a s) := by
  unfold selectOp selectStage selectSlot selectInfo
  repeat' split
  all_goals simp

theorem refusalLeaves_entryOp (d : Byte) : RefusalLeaves s (entryOp d s) := by
  unfold entryOp
  split <;> simp

theorem refusalLeaves_openOp (n z m : Byte) : RefusalLeaves s (openOp n z m s) := by
  unfold openOp
  repeat' split
  all_goals simp

theorem refusalLeaves_commitOp : RefusalLeaves s (commitOp s) := by
  unfold commitOp
  repeat' split
  all_goals simp

theorem refusalLeaves_abortOp : RefusalLeaves s (abortOp s) := by
  unfold abortOp
  repeat' split
  all_goals simp

theorem refusalLeaves_eraseOp (n : Byte) : RefusalLeaves s (eraseOp n s) := by
  unfold eraseOp
  repeat' split
  all_goals simp

theorem refusalLeaves_verifyOp (n : Byte) : RefusalLeaves s (verifyOp n s) := by
  unfold verifyOp
  repeat' split
  all_goals simp

theorem refusalLeaves_holdOp (m : Byte) : RefusalLeaves s (holdOp m s) := by
  unfold holdOp newHold upgradeHold
  repeat' split
  all_goals simp

theorem refusalLeaves_releaseOp : RefusalLeaves s (releaseOp s) := by
  unfold releaseOp
  split <;> simp

/-! ### The calendar, the alarms -/

theorem refusalLeaves_clockSetOp (y mo d h mi sec : Byte) : RefusalLeaves s (clockSetOp y mo d h mi sec s) := by
  unfold clockSetOp
  dsimp only
  repeat' split
  all_goals simp

theorem refusalLeaves_dayStartOp (h m : Byte) : RefusalLeaves s (dayStartOp h m s) := by
  unfold dayStartOp
  split <;> simp

theorem refusalLeaves_alarmArmOp (m : Master) (e k c a b1 b2 b3 b4 b5 b6 : Byte) :
    RefusalLeaves s (alarmArmOp m e k c a b1 b2 b3 b4 b5 b6 s) := by
  unfold alarmArmOp
  repeat' split
  all_goals simp

theorem refusalLeaves_alarmDisarmOp (m : Master) (e : Byte) : RefusalLeaves s (alarmDisarmOp m e s) := by
  unfold alarmDisarmOp
  repeat' split
  all_goals simp

/-! ### Voices, mixer, rumble -/

theorem refusalLeaves_voiceSetOp (v c st lp f : Byte) : RefusalLeaves s (voiceSetOp v c st lp f s) := by
  unfold voiceSetOp
  repeat' split
  all_goals simp

theorem refusalLeaves_voicePitchOp (v : Byte) (d : Half) (t : Byte) : RefusalLeaves s (voicePitchOp v d t s) := by
  unfold voicePitchOp
  dsimp only
  repeat' split
  all_goals simp

theorem refusalLeaves_voiceLevelOp (v l d e : Byte) : RefusalLeaves s (voiceLevelOp v l d e s) := by
  unfold voiceLevelOp
  repeat' split
  all_goals simp

theorem refusalLeaves_waveLayoutOp (l : Byte) : RefusalLeaves s (waveLayoutOp l s) := by
  unfold waveLayoutOp
  split <;> simp

theorem refusalLeaves_mixSetOp (v m e : Byte) : RefusalLeaves s (mixSetOp v m e s) := by
  unfold mixSetOp
  split <;> simp

/-- A refused rumble command forms the effective level (R142). -/
theorem refusalLeaves_rumbleLinkOp (v : Byte) : RefusalLeaves (formLevel s) (rumbleLinkOp v s) := by
  unfold rumbleLinkOp refuseRumble
  split <;> simp

theorem refusalLeaves_rumblePatternOp (p n : Byte) : RefusalLeaves (formLevel s) (rumblePatternOp p n s) := by
  unfold rumblePatternOp refuseRumble
  repeat' split
  all_goals simp

/-! ### Events, supply -/

theorem refusalLeaves_lineEnableOp (m : Master) (e : Byte) : RefusalLeaves s (lineEnableOp m e s) := by
  unfold lineEnableOp
  split <;> simp

theorem refusalLeaves_batteryOp (b : Byte) : RefusalLeaves s (batteryOp b s) := by
  unfold batteryOp
  split <;> simp

theorem refusalLeaves_powerModeOp (m : Byte) : RefusalLeaves s (powerModeOp m s) := by
  unfold powerModeOp
  split <;> simp

/-! ### Commands and requests -/

/-- A rumble command's row. -/
def isRumble (i : Instr) : Bool :=
  match i with
  | .rumbleDirect _ _ | .rumblePattern _ _ _ | .rumbleLink _ _ | .rumbleStop _ | .rumbleLimit _ _ => true
  | _ => false

/-- The codes of the rumble commands are 40h to 44h. -/
theorem rumbleCode_iff {i : Instr} {b : Byte} {ps : List Byte} (hb : i.busBytes = some (b, ps)) :
    0x40 ≤ commandCode b ∧ commandCode b ≤ 0x44 ↔ isRumble i = true := by
  have code {r : Bool} {c : Byte} {qs : List Byte} (hc : c.toNat < 128) (e : some (commandByte r c, qs) = some (b, ps)) :
      commandCode b = c.toNat := by
    rw [← (Prod.mk.inj (Option.some.inj e)).1]
    exact commandCode_commandByte r hc
  have rumble {r : Bool} {c : Byte} {qs : List Byte} (e : some (commandByte r c, qs) = some (b, ps))
      (hc : 0x40 ≤ c.toNat ∧ c.toNat ≤ 0x44) : 0x40 ≤ commandCode b ∧ commandCode b ≤ 0x44 ↔ true = true := by
    rw [code (by omega) e]
    exact iff_of_true hc rfl
  have other {r : Bool} {c : Byte} {qs : List Byte} (e : some (commandByte r c, qs) = some (b, ps))
      (hc : c.toNat < 128 ∧ ¬(0x40 ≤ c.toNat ∧ c.toNat ≤ 0x44)) :
      0x40 ≤ commandCode b ∧ commandCode b ≤ 0x44 ↔ false = true := by
    rw [code hc.1 e]
    exact iff_of_false hc.2 Bool.false_ne_true
  cases i with
  | hold m | release m | clockSet m | alarmArm m | alarmDisarm m | silence m | eventAck m | eventAckLost m | eventMask m
  | lineEnable m | battery m | powerMode m =>
    cases m
    · exact other hb (by decide)
    · cases hb
  | rumbleDirect | rumblePattern | rumbleLink | rumbleStop | rumbleLimit => exact rumble hb (by decide)
  | select | entry | statusClear | openTxn | commit | abort | erase | verify | dayStart | catchUpLimit | rebase | voiceSet
  | voiceStart | voiceStop | voicePitch | voiceLevel | waveLayout | ringSet | ringFlush | mixSet | clipClear =>
    exact other hb (by decide)
  | _ => cases hb

/-- What a refused main-bus command leaves. -/
theorem refusalLeaves_busEffect (i : Instr) :
    RefusalLeaves (if isRumble i then formLevel s else s) (busEffect i s) := by
  cases i with
  | select r t x a => exact refusalLeaves_selectOp s t x a
  | entry r d => exact refusalLeaves_entryOp s d
  | openTxn r n z m => exact refusalLeaves_openOp s n z m
  | commit r => exact refusalLeaves_commitOp s
  | abort r => exact refusalLeaves_abortOp s
  | erase r n => exact refusalLeaves_eraseOp s n
  | verify r n => exact refusalLeaves_verifyOp s n
  | dayStart r h m => exact refusalLeaves_dayStartOp s h m
  | alarmArm m e k c a b1 b2 b3 b4 b5 b6 => exact refusalLeaves_alarmArmOp s .game e k c a b1 b2 b3 b4 b5 b6
  | alarmDisarm m e => exact refusalLeaves_alarmDisarmOp s .game e
  | voiceSet r v c st lp f => exact refusalLeaves_voiceSetOp s v c st lp f
  | voicePitch r v d t => exact refusalLeaves_voicePitchOp s v d t
  | voiceLevel r v l d e => exact refusalLeaves_voiceLevelOp s v l d e
  | waveLayout r l => exact refusalLeaves_waveLayoutOp s l
  | mixSet r v m e => exact refusalLeaves_mixSetOp s v m e
  | rumblePattern r p n => exact refusalLeaves_rumblePatternOp s p n
  | rumbleLink r v => exact refusalLeaves_rumbleLinkOp s v
  | lineEnable m e => exact refusalLeaves_lineEnableOp s .game e
  | catchUpLimit | ringSet => exact refusalLeaves_clamp _ _
  | rumbleDirect | rumbleLimit => exact refusalLeaves_clamp _ _
  | statusClear | rebase | voiceStart | voiceStop | ringFlush | clipClear | eventAck | eventAckLost | eventMask =>
    exact refusalLeaves_ok _
  | rumbleStop => exact refusalLeaves_ok _
  | _ => exact refusalLeaves_refuse _ s

/-- A refused request leaves the state. -/
theorem refused_linkEffect (i : Instr) (h : (linkEffect i s).2.1.isRefusal = true) :
    (linkEffect i s).1 = s := by
  have noData {r : Result} (kept : RefusalLeaves s r) (h : r.2.isRefusal = true) : r.1 = s := kept h
  cases i with
  | hold m b => exact noData (refusalLeaves_holdOp s b) h
  | release m => exact noData (refusalLeaves_releaseOp s) h
  | clockSet m y mo d hh mi sec => exact noData (refusalLeaves_clockSetOp s y mo d hh mi sec) h
  | alarmArm m e k c a b1 b2 b3 b4 b5 b6 => exact noData (refusalLeaves_alarmArmOp s .system e k c a b1 b2 b3 b4 b5 b6) h
  | alarmDisarm m e => exact noData (refusalLeaves_alarmDisarmOp s .system e) h
  | silence | eventAck | eventAckLost | eventMask => exact noData (refusalLeaves_ok _) h
  | lineEnable m e => exact noData (refusalLeaves_lineEnableOp s .system e) h
  | battery m b => exact noData (refusalLeaves_batteryOp s b) h
  | powerMode m b => exact noData (refusalLeaves_powerModeOp s b) h
  | slotRead n o c =>
    revert h
    show (slotReadOp n o c s).2.1.isRefusal = true → (slotReadOp n o c s).1 = s
    unfold slotReadOp
    dsimp only
    repeat' split
    all_goals first | exact fun _ => rfl | exact nofun
  | readRecord r x =>
    show (readRecordOp r x s).1 = s
    unfold readRecordOp
    repeat' split
    all_goals rfl
  | _ => rfl

end

end Sys2Proof.Safety

open Sys2Proof Sys2Proof.Machine Sys2Proof.Safety

/-- Settles O9: the effect's refusal leaves the state, the report or reply is all the rest. -/
theorem refusalChangesNothingElse : Obligations.RefusalChangesNothingElse := by
  constructor
  · intro i b ps s hb hs refused
    obtain ⟨hp, hr, hc⟩ := hs
    have left := refusalLeaves_busEffect s i refused
    have row := (row_of_busBytes hb).2 s
    have on : (busEffect i s).1.power ≠ .off := by
      rw [left]
      split <;> exact hp
    rw [row, runBus_ready _ _ _ ⟨hp, hr, hc⟩ on, left, reported]
    simp only [refused, Bool.or_true, if_true]
    by_cases h : isRumble i = true
    · rw [if_pos h, if_pos ((rumbleCode_iff hb).2 h), formLevel_eq]
    · rw [if_neg h, if_neg (mt (rumbleCode_iff hb).1 h)]
  · intro i bytes s hb hs refused
    have left := refused_linkEffect s i refused
    have on : (linkEffect i s).1.power ≠ .off := by
      rw [left]
      exact hs.1
    rw [exec_of_linkBytes i s bytes hb, runLink_ready bytes _ hs on, left, replied]
    simp only [refused, if_true]

end

section
/-! Fires at one event, in order: the posts, the rumble record and the entries after them (R79 to R86), whatever the Calendar's
records have become meanwhile. -/

namespace Sys2Proof.Safety

open Sys2Proof.Machine

/-! ### The actions of fires -/

/-- The patterns that the actions of entries name, in order. -/
def actions (s : State) (es : List (Fin 8)) : List (Fin 4) := es.filterMap fun e => s.alarms[e].bind AlarmEntry.action

/-- The rumble record after a fire's pattern (R83, R146). -/
def playedRumble (s : State) (p : Fin 4) : RumbleRecord :=
  if s.power ≠ .active then s.rumble
  else if stepDuration s p 0 = 0 then (withMode .off 0 s).rumble
  else (withMode (loadedStep s p 1 0) (min (stepLevelByte s p 0).toNat 15) s).rumble

theorem rumbleAfterFires_eq (s : State) (es : List (Fin 8)) :
    rumbleAfterFires s es = ((actions s es).getLast?.map (playedRumble s)).getD s.rumble := by
  unfold rumbleAfterFires actions
  cases (es.filterMap fun e => s.alarms[e].bind AlarmEntry.action).getLast? <;> rfl

theorem playedRumble_of_inactive {s : State} (p : Fin 4) (h : s.power ≠ .active) : playedRumble s p = s.rumble := if_pos h

theorem rumbleAfterFires_of_inactive {s : State} (es : List (Fin 8)) (h : s.power ≠ .active) :
    rumbleAfterFires s es = s.rumble := by
  rw [rumbleAfterFires_eq]
  cases (actions s es).getLast? with
  | none => rfl
  | some p => exact playedRumble_of_inactive p h

/-- Fires leave all of the rumble record but mode and level. -/
theorem rumbleAfterFires_frame (s : State) (es : List (Fin 8)) : rumbleAfterFires s es = { s.rumble with
    mode := (rumbleAfterFires s es).mode, level := (rumbleAfterFires s es).level } := by
  rw [rumbleAfterFires_eq]
  cases (actions s es).getLast? with
  | none => rfl
  | some p =>
    simp only [Option.map_some, Option.getD_some, playedRumble]
    repeat' split
    all_goals rfl

theorem firePosts_cons (m : Master) (s : State) (e : Fin 8) (es : List (Fin 8)) :
    firePosts m s (e :: es) = firePosts m s [e] ++ firePosts m s es := by
  simp only [firePosts, List.flatMap_cons, List.flatMap_nil, List.append_nil]

/-! ### A state after fires -/

/-- From `s`: the posts `gs` and `ss` made to the two queues, the entries `fs` fired, whatever the Calendar's records. -/
structure Fired (s : State) (gs ss : List (EventKind × Byte)) (fs : List (Fin 8)) (t : State) : Prop where
  whole : t = { s with
    crystal := t.crystal, calendar := t.calendar, clock := t.clock, gameDay := t.gameDay, setting := t.setting
    alarms := t.alarms, rumble := rumbleAfterFires s fs
    gameEvents := queueAfter s gs s.gameEvents, systemEvents := queueAfter s ss s.systemEvents }
  entries : ∀ e : Fin 8, t.alarms[e].map (fun a => (a.owner, a.action)) = s.alarms[e].map fun a => (a.owner, a.action)

section
variable {s t : State} {gs ss : List (EventKind × Byte)} {fs : List (Fin 8)}

theorem Fired.refl (s : State) : Fired s [] [] [] s := by
  refine ⟨?_, fun _ => rfl⟩
  rw [queueAfter_nil, queueAfter_nil]
  rfl

theorem Fired.power (h : Fired s gs ss fs t) : t.power = s.power := (congrArg State.power h.whole :)

theorem Fired.queueAfter_eq (h : Fired s gs ss fs t) (es : List (EventKind × Byte)) (q : EventRecord) :
    queueAfter t es q = queueAfter s es q := by rw [queueAfter, h.power, queueAfter]

theorem Fired.game (h : Fired s gs ss fs t) (es : List (EventKind × Byte)) :
    queueAfter t es t.gameEvents = queueAfter s (gs ++ es) s.gameEvents := by
  have events : t.gameEvents = queueAfter s gs s.gameEvents := (congrArg State.gameEvents h.whole :)
  rw [h.queueAfter_eq, events, queueAfter_append]

theorem Fired.system (h : Fired s gs ss fs t) (es : List (EventKind × Byte)) :
    queueAfter t es t.systemEvents = queueAfter s (ss ++ es) s.systemEvents := by
  have events : t.systemEvents = queueAfter s ss s.systemEvents := (congrArg State.systemEvents h.whole :)
  rw [h.queueAfter_eq, events, queueAfter_append]

/-- The Calendar's records changed. -/
theorem Fired.set (h : Fired s gs ss fs t) (x : Nat) (c : CalendarState) (k : ClockRecord) (g : GameDayRecord)
    (r : SettingRecord) : Fired s gs ss fs { t with crystal := x, calendar := c, clock := k, gameDay := g, setting := r } :=
  ⟨congrArg (fun u : State => { u with crystal := x, calendar := c, clock := k, gameDay := g, setting := r }) h.whole, h.entries⟩

/-- Entries changed but for owner and action. -/
theorem Fired.setAlarms (h : Fired s gs ss fs t) {v : Vector (Option AlarmEntry) 8}
    (hv : ∀ e : Fin 8, v[e].map (fun a => (a.owner, a.action)) = t.alarms[e].map fun a => (a.owner, a.action)) :
    Fired s gs ss fs { t with alarms := v } :=
  ⟨congrArg (fun u : State => { u with alarms := v }) h.whole, fun e => (hv e).trans (h.entries e)⟩

theorem Fired.postGame (h : Fired s gs ss fs t) (k : EventKind) (d : Byte) :
    Fired s (gs ++ [(k, d)]) ss fs (postGame k d t) := by
  rw [postGame_eq, h.game]
  exact ⟨congrArg (fun u : State => { u with gameEvents := queueAfter s (gs ++ [(k, d)]) s.gameEvents }) h.whole, h.entries⟩

theorem Fired.postBoth (h : Fired s gs ss fs t) (k : EventKind) (d : Byte) :
    Fired s (gs ++ [(k, d)]) (ss ++ [(k, d)]) fs (postBoth k d t) := by
  rw [postBoth_eq, h.game, h.system]
  exact ⟨congrArg (fun u : State => { u with
    gameEvents := queueAfter s (gs ++ [(k, d)]) s.gameEvents
    systemEvents := queueAfter s (ss ++ [(k, d)]) s.systemEvents }) h.whole, h.entries⟩

theorem Fired.actions_eq (h : Fired s gs ss fs t) (es : List (Fin 8)) : actions t es = actions s es := by
  refine List.filterMap_congr fun e _ => ?_
  have same := congrArg (Option.map Prod.snd) (h.entries e)
  rw [Option.map_map, Option.map_map] at same
  have inner (x : Option AlarmEntry) : x.bind AlarmEntry.action = (x.map AlarmEntry.action).join := by cases x <;> rfl
  rw [inner, inner]
  exact congrArg Option.join same

theorem Fired.firePosts_eq (h : Fired s gs ss fs t) (m : Master) (es : List (Fin 8)) : firePosts m t es = firePosts m s es := by
  have memory : t.patternMem = s.patternMem := (congrArg State.patternMem h.whole :)
  have pattern (p : Fin 4) : stepDuration t p 0 = stepDuration s p 0 := by
    rw [stepDuration, memory, stepDuration]
  unfold firePosts
  refine List.flatMap_congr fun e _ => ?_
  have same := h.entries e
  cases hs : s.alarms[e] with
  | none =>
    rw [hs, Option.map_none, Option.map_eq_none_iff] at same
    rw [same]
  | some a =>
    rw [hs, Option.map_some] at same
    obtain ⟨b, hb, same⟩ := Option.map_eq_some_iff.1 same
    obtain ⟨owner, action⟩ := Prod.mk.inj same
    simp only [hb, owner, action, h.power, pattern]

/-- A pattern started after fires is one started without them. -/
theorem Fired.playedRumble_eq (h : Fired s gs ss fs t) (hp : s.power = .active) (p : Fin 4) :
    playedRumble t p = playedRumble s p := by
  have power := h.power
  have battery : t.battery = s.battery := (congrArg State.battery h.whole :)
  have memory : t.patternMem = s.patternMem := (congrArg State.patternMem h.whole :)
  have rumble : t.rumble = { s.rumble with mode := (rumbleAfterFires s fs).mode, level := (rumbleAfterFires s fs).level } :=
    (congrArg State.rumble h.whole :).trans (rumbleAfterFires_frame s fs)
  simp only [playedRumble, stepDuration, withMode, loadedStep, stepLevelByte, formedLevel, power, battery, memory, rumble, hp,
    ne_eq, not_true_eq_false, if_false]

theorem Fired.rumbleAfterFires_eq (h : Fired s gs ss fs t) (es : List (Fin 8)) :
    rumbleAfterFires t es = rumbleAfterFires s (fs ++ es) := by
  have rumble : t.rumble = rumbleAfterFires s fs := (congrArg State.rumble h.whole :)
  by_cases hp : s.power = .active
  · have split : actions s (fs ++ es) = actions s fs ++ actions s es := List.filterMap_append
    rw [Safety.rumbleAfterFires_eq, Safety.rumbleAfterFires_eq, h.actions_eq, split, List.getLast?_append, rumble,
      Safety.rumbleAfterFires_eq]
    cases (actions s es).getLast? with
    | none => rfl
    | some p => exact h.playedRumble_eq hp p
  · rw [rumbleAfterFires_of_inactive es (by rw [h.power]; exact hp), rumble, rumbleAfterFires_of_inactive _ hp,
      rumbleAfterFires_of_inactive _ hp]

/-- A fire keeps owner and action of every entry. -/
theorem fireAlarm_entries (t : State) (e f : Fin 8) :
    (fireAlarm t e).alarms[f].map (fun a => (a.owner, a.action)) = t.alarms[f].map fun a => (a.owner, a.action) := by
  rw [fireAlarm_alarms]
  split
  · next hf =>
    rw [hf, Option.map_map]
    rfl
  · rfl

/-- One more fire. -/
theorem Fired.fireAlarm (h : Fired s gs ss fs t) (e : Fin 8) :
    Fired s (gs ++ firePosts .game s [e]) (ss ++ firePosts .system s [e]) (fs ++ [e]) (Machine.fireAlarm t e) := by
  refine ⟨?_, fun f => (fireAlarm_entries t e f).trans (h.entries f)⟩
  cases ha : t.alarms[e] with
  | none =>
    have free : s.alarms[e] = none := by
      have same := h.entries e
      rwa [ha, Option.map_none, eq_comm, Option.map_eq_none_iff] at same
    have posts (m : Master) : firePosts m s [e] = [] := by
      rw [firePosts, List.flatMap_singleton, free]
    have silent : actions s [e] = [] := by
      rw [actions, List.filterMap_cons_none (by rw [free]; rfl), List.filterMap_nil]
    have still : rumbleAfterFires s (fs ++ [e]) = rumbleAfterFires s fs := by
      have split : actions s (fs ++ [e]) = actions s fs ++ actions s [e] := List.filterMap_append
      rw [Safety.rumbleAfterFires_eq, Safety.rumbleAfterFires_eq, split, silent, List.append_nil]
    have stays : Machine.fireAlarm t e = t := by rw [Machine.fireAlarm, ha]
    rw [posts, posts, List.append_nil, List.append_nil, still, stays]
    exact h.whole
  | some a =>
    have fires := fireAlarm_of_some ha
    rw [h.firePosts_eq, h.firePosts_eq, h.game, h.system, h.rumbleAfterFires_eq] at fires
    rw [fires]
    exact congrArg (fun u : State => { u with
      alarms := t.alarms.set e.val (some (a.fired t.power t.clock.now t.gameDay.day)) e.isLt
      rumble := rumbleAfterFires s (fs ++ [e])
      gameEvents := queueAfter s (gs ++ firePosts .game s [e]) s.gameEvents
      systemEvents := queueAfter s (ss ++ firePosts .system s [e]) s.systemEvents }) h.whole

/-- Several fires at one event. -/
theorem Fired.fireAll (h : Fired s gs ss fs t) (es : List (Fin 8)) :
    Fired s (gs ++ firePosts .game s es) (ss ++ firePosts .system s es) (fs ++ es) (Machine.fireAll es t) := by
  induction es generalizing gs ss fs t with
  | nil =>
    have posts (m : Master) : firePosts m s [] = [] := rfl
    rw [posts, posts, List.append_nil, List.append_nil, List.append_nil]
    exact h
  | cons e es ih =>
    have rest := ih (h.fireAlarm e)
    rw [List.append_assoc, List.append_assoc, List.append_assoc, List.singleton_append, ← firePosts_cons, ← firePosts_cons] at rest
    exact rest

end

end Sys2Proof.Safety
end

section
/-! The runs of the due list at one event (R79, R80 to R82): which entries fire, in which order, and what becomes of each. -/

namespace Sys2Proof.Safety

open Sys2Proof.Machine

/-! ### Runs -/

/-- The run a due stands in: GAME, REAL, COUNTDOWN. -/
def runOf (d : AlarmDue) : Nat :=
  match d with
  | .game _ _ => 0
  | .real _ _ => 1
  | .countdown _ _ => 2

/-- A test of dues that only dues of run `i` pass. -/
def OfRun (i : Nat) (test : AlarmDue → Bool) : Prop := ∀ d, test d = true → runOf d = i

theorem ofRun_gameReached (day : Nat) : OfRun 0 (AlarmDue.gameReached day) := by
  intro d h
  cases d with
  | game => rfl
  | _ => cases h

theorem ofRun_realWhere (test : Nat → Bool) : OfRun 1 (AlarmDue.realWhere test) := by
  intro d h
  cases d with
  | real => rfl
  | _ => cases h

theorem ofRun_countedOut : OfRun 2 AlarmDue.countedOut := by
  intro d h
  cases d with
  | countdown => rfl
  | _ => cases h

theorem runOf_reschedule (now : DateTime) (day : Nat) (d : AlarmDue) : runOf (reschedule now day d).2 = runOf d := by
  unfold reschedule
  dsimp only
  repeat' split
  all_goals rfl

theorem counted_of_run {a : AlarmEntry} (h : runOf a.due ≠ 2) : a.counted = a := by
  unfold AlarmEntry.counted
  split
  · next hd => exact absurd (by rw [hd]; rfl) h
  · rfl

/-! ### An entry and the fires -/

/-- An entry after the fires of those ARMED whose due meets a test. -/
def fireIf (test : AlarmDue → Bool) (power : PowerState) (now : DateTime) (day : Nat) (a : AlarmEntry) : AlarmEntry :=
  if a.state = .armed ∧ test a.due = true then a.fired power now day else a

section
variable {test : AlarmDue → Bool} {i : Nat} {power : PowerState} {now : DateTime} {day : Nat} {a : AlarmEntry}

theorem fireIf_of_spent (h : a.state = .spent) : fireIf test power now day a = a :=
  if_neg fun x => AlarmState.noConfusion (x.1.symm.trans h)

theorem fireIf_of_run (ht : OfRun i test) (h : runOf a.due ≠ i) : fireIf test power now day a = a :=
  if_neg fun x => h (ht _ x.2)

theorem runOf_fireIf : runOf (fireIf test power now day a).due = runOf a.due := by
  unfold fireIf
  split
  · exact runOf_reschedule ..
  · rfl

/-- Fires of one run do not touch the entries of another. -/
theorem armedTest_fireIf {test' : AlarmDue → Bool} {j : Nat} (ht : OfRun i test) (ht' : OfRun j test') (hij : i ≠ j)
    (power : PowerState) (now : DateTime) (day : Nat) (a : AlarmEntry) :
    (decide ((fireIf test power now day a).state = .armed) && test' (fireIf test power now day a).due)
      = (decide (a.state = .armed) && test' a.due) := by
  by_cases h : runOf a.due = i
  · have other (d : AlarmDue) (hd : runOf d = i) : test' d = false :=
      Bool.eq_false_iff.2 fun hd' => hij (hd.symm.trans (ht' d hd'))
    rw [other _ (runOf_fireIf.trans h), other _ h, Bool.and_false, Bool.and_false]
  · rw [fireIf_of_run ht h]

end

section
variable {s t : State} {test : AlarmDue → Bool}

/-- What the fires of the entries that meet a test make of each entry. -/
theorem fireWhere_alarms (test : AlarmDue → Bool) (t : State) (e : Fin 8) : (fireAll (dueWhere test t) t).alarms[e]
    = t.alarms[e].map (fireIf test t.power t.clock.now t.gameDay.day) := by
  rw [fireAll_alarms _ _ (dueWhere_nodup test t)]
  cases ha : t.alarms[e] with
  | none => exact ite_self none
  | some a =>
    rw [Option.map_some, Option.map_some, fireIf, ← apply_ite some]
    exact congrArg some (if_congr (mem_dueWhere ha) rfl rfl)

/-! ### Which entries fire, and in which order -/

theorem mem_dueWhere_iff {e : Fin 8} : e ∈ dueWhere test s ↔ armedWhere test s e = true := by
  cases ha : s.alarms[e] with
  | none =>
    refine iff_of_false (fun h => ?_) (by rw [armedWhere, ha]; exact Bool.false_ne_true)
    have met := (List.mem_filter.1 h).2
    rw [ha] at met
    cases met
  | some a => simp [mem_dueWhere ha, armedWhere, ha]

/-- The due list cut to a test is the run of the test in due-list order. -/
theorem dueWhere_eq_filter (test : AlarmDue → Bool) (s : State) : dueWhere test s = (dueList s).filter (armedWhere test s) := by
  refine List.filter_congr fun e he => ?_
  have armed := mem_dueList.1 he
  unfold isArmed at armed
  cases ha : s.alarms[e] with
  | none => simp [armedWhere, ha]
  | some a =>
    rw [ha, Option.any_some] at armed
    simp only [armedWhere, ha, Option.any_some, armed, Bool.true_and]

theorem armedWhere_map {test' : AlarmDue → Bool} {g : AlarmEntry → AlarmEntry} {e : Fin 8}
    (h : t.alarms[e] = s.alarms[e].map g)
    (hg : ∀ a, (decide ((g a).state = .armed) && test' (g a).due) = (decide (a.state = .armed) && test a.due)) :
    armedWhere test' t e = armedWhere test s e := by
  rw [armedWhere, h, armedWhere]
  cases s.alarms[e] with
  | none => rfl
  | some a => exact hg a

/-- An entry's place in due order, as the number the due list is sorted by. -/
def placeOf (s : State) (e : Fin 8) : Nat := (s.alarms[e].map fun a => dueKey s.clock.now e a.due).getD e.val

theorem dueKey_mod (now : DateTime) (e : Fin 8) (d : AlarmDue) : dueKey now e d % 8 = e.val := by
  have := e.isLt
  cases d <;> simp only [dueKey] <;> omega

theorem placeOf_injective (s : State) : Function.Injective (placeOf s) := by
  have mod (e : Fin 8) : placeOf s e % 8 = e.val := by
    unfold placeOf
    cases s.alarms[e] with
    | none => exact Nat.mod_eq_of_lt e.isLt
    | some a => exact dueKey_mod _ e _
  exact fun e f h => Fin.ext ((mod e).symm.trans ((congrArg (· % 8) h).trans (mod f)))

theorem placeOf_eq {e : Fin 8} {a : AlarmEntry} (h : s.alarms[e] = some a) : placeOf s e = dueKey s.clock.now e a.due := by
  rw [placeOf, h]
  rfl

theorem dueList_sorted (s : State) : (dueList s).Pairwise fun e f => placeOf s e ≤ placeOf s f := by
  rw [dueList_eq]
  refine List.pairwise_map.2 ((sortedKeys_sorted s).imp_of_mem ?_)
  rintro ⟨k, e⟩ ⟨l, f⟩ he hf hle
  obtain ⟨a, ha, rfl⟩ := mem_sortedKeys he
  obtain ⟨b, hb, rfl⟩ := mem_sortedKeys hf
  rw [placeOf_eq ha, placeOf_eq hb]
  exact hle

theorem dueWhere_sorted (test : AlarmDue → Bool) (s : State) :
    (dueWhere test s).Pairwise fun e f => placeOf s e ≤ placeOf s f := (dueList_sorted s).filter _

/-- A list of the entries that meet a test is their run, if it is sorted by a place that agrees with due order. -/
theorem dueWhere_eq {l : List (Fin 8)} {place : Fin 8 → Nat} (hplace : Function.Injective place) (hnodup : l.Nodup)
    (hsorted : l.Pairwise fun e f => place e ≤ place f) (hmem : ∀ e, armedWhere test t e = true ↔ e ∈ l)
    (hagree : ∀ e f, armedWhere test t e = true → armedWhere test t f = true →
      placeOf t e ≤ placeOf t f → place e ≤ place f) : dueWhere test t = l := by
  have perm : (dueWhere test t).Perm l :=
    (List.perm_ext_iff_of_nodup (dueWhere_nodup test t) hnodup).2 fun e => mem_dueWhere_iff.trans (hmem e)
  refine perm.eq_of_pairwise (fun e f _ _ h h' => hplace (Nat.le_antisymm h h')) ?_ hsorted
  exact (dueWhere_sorted test t).imp_of_mem fun he hf hle => hagree _ _ (mem_dueWhere_iff.1 he) (mem_dueWhere_iff.1 hf) hle

theorem exists_of_armedWhere {e : Fin 8} (h : armedWhere test s e = true) :
    ∃ a, s.alarms[e] = some a ∧ test a.due = true := by
  unfold armedWhere at h
  cases ha : s.alarms[e] with
  | none => rw [ha] at h; cases h
  | some a =>
    rw [ha, Option.any_some, Bool.and_eq_true] at h
    exact ⟨a, rfl, h.2⟩

/-- The run of GAME entries does not depend on the clock. -/
theorem dueWhere_game (ht : OfRun 0 test) (h : t.alarms = s.alarms) : dueWhere test t = dueWhere test s := by
  refine dueWhere_eq (placeOf_injective s) (dueWhere_nodup test s) (dueWhere_sorted test s) (fun e => ?_) fun e f he hf hle => ?_
  · rw [mem_dueWhere_iff, armedWhere, h, armedWhere]
  · have place {x : Fin 8} (hx : armedWhere test t x = true) : placeOf t x = placeOf s x := by
      obtain ⟨a, ha, hd⟩ := exists_of_armedWhere hx
      rw [placeOf_eq ha, placeOf_eq (by rw [← h]; exact ha)]
      have run := ht _ hd
      cases hdue : a.due with
      | game => rfl
      | _ => rw [hdue] at run; cases run
    rwa [place he, place hf] at hle

/-- Entries with one key in their run fire in the order of their numbers. -/
theorem dueWhere_level {k : Nat}
    (hk : ∀ e a, t.alarms[e] = some a → test a.due = true → dueKey t.clock.now e a.due = k + e.val) :
    dueWhere test t = (List.finRange 8).filter (armedWhere test t) := by
  refine dueWhere_eq Fin.val_injective ((show (List.finRange 8).Nodup by decide).filter _)
    ((show (List.finRange 8).Pairwise fun e f => e.val ≤ f.val by decide).filter _) (fun e => ?_) fun e f he hf hle => ?_
  · rw [List.mem_filter, and_iff_right (List.mem_finRange e)]
  · obtain ⟨a, ha, hda⟩ := exists_of_armedWhere he
    obtain ⟨b, hb, hdb⟩ := exists_of_armedWhere hf
    rw [placeOf_eq ha, placeOf_eq hb, hk e a ha hda, hk f b hb hdb] at hle
    exact Nat.le_of_add_le_add_left hle

/-- REAL entries due at one instant fire in the order of their numbers. -/
theorem dueWhere_instant (n : Nat) (t : State) : dueWhere (AlarmDue.realWhere (· == n)) t
    = (List.finRange 8).filter (armedWhere (AlarmDue.realWhere (· == n)) t) := by
  refine dueWhere_level (k := 2 ^ 40 + (n + rangeSeconds - instant t.clock.now) % rangeSeconds * 8) fun e a _ hd => ?_
  cases hdue : a.due with
  | real x r =>
    rw [hdue] at hd
    have : instant x = n := eq_of_beq hd
    rw [dueKey, forwardDistance, this]
  | _ => rw [hdue] at hd; cases hd

/-- COUNTDOWN entries at 0 fire in the order of their numbers. -/
theorem dueWhere_countedOut (t : State) : dueWhere AlarmDue.countedOut t
    = (List.finRange 8).filter (armedWhere AlarmDue.countedOut t) := by
  refine dueWhere_level (k := 2 ^ 41) fun e a _ hd => ?_
  cases hdue : a.due with
  | countdown n r =>
    rw [hdue] at hd
    have : n = 0 := eq_of_beq hd
    rw [dueKey, this, Nat.zero_mul, Nat.add_zero]
  | _ => rw [hdue] at hd; cases hd

end

end Sys2Proof.Safety
end

section
/-! A second arrival (R50 to R52, R62, R80 to R83): the clock's advance, the turn, and the three runs of fires. -/

namespace Sys2Proof.Safety

open Sys2Proof.Machine

/-! ### The Calendar's records -/

/-- The records of the Calendar. -/
def calendarOf (t : State) : Nat × CalendarState × ClockRecord × GameDayRecord × SettingRecord :=
  (t.crystal, t.calendar, t.clock, t.gameDay, t.setting)

theorem calendarOf_fireAll (es : List (Fin 8)) (t : State) : calendarOf (fireAll es t) = calendarOf t := by
  rw [fireAll_eq]
  rfl

/-- A state after fires with its Calendar's records said. -/
theorem Fired.eq {s t : State} {gs ss : List (EventKind × Byte)} {fs : List (Fin 8)} (h : Fired s gs ss fs t) {x : Nat}
    {c : CalendarState} {k : ClockRecord} {g : GameDayRecord} {r : SettingRecord} (ht : calendarOf t = (x, c, k, g, r)) :
    t = { s with
      crystal := x, calendar := c, clock := k, gameDay := g, setting := r, alarms := t.alarms, rumble := rumbleAfterFires s fs
      gameEvents := queueAfter s gs s.gameEvents, systemEvents := queueAfter s ss s.systemEvents } := by
  have whole := h.whole
  simp only [calendarOf, Prod.mk.injEq] at ht
  obtain ⟨hx, hc, hk, hg, hr⟩ := ht
  rwa [hx, hc, hk, hg, hr] at whole

section
variable {s t u : State} {gs ss : List (EventKind × Byte)} {fs : List (Fin 8)}

/-! ### The second of the countdowns -/

/-- A COUNTDOWN in its last second. -/
def lastSecond (d : AlarmDue) : Bool :=
  match d with
  | .countdown n _ => decide (n ≤ 1)
  | _ => false

theorem ofRun_lastSecond : OfRun 2 lastSecond := by
  intro d h
  cases d with
  | countdown => rfl
  | _ => cases h

/-- The entries that fire at a second's end. -/
def countedFires (s : State) : List (Fin 8) := (List.finRange 8).filter (armedWhere lastSecond s)

/-- Counting a second brings the last second to 0, and no other. -/
theorem armedTest_counted (a : AlarmEntry) :
    (decide (a.counted.state = .armed) && AlarmDue.countedOut a.counted.due) = (decide (a.state = .armed) && lastSecond a.due) := by
  unfold AlarmEntry.counted
  split
  · next n r hs hd =>
    rw [hd, hs]
    exact congrArg (true && ·) (decide_eq_decide.2 (by omega : n - 1 = 0 ↔ n ≤ 1))
  · next other =>
    cases hs : a.state with
    | spent => rfl
    | armed =>
      cases hd : a.due with
      | countdown n r => exact absurd hd (other n r hs)
      | _ => rfl

theorem Fired.takeSecond (h : Fired s gs ss fs t) {g : AlarmEntry → AlarmEntry}
    (hg : ∀ e : Fin 8, t.alarms[e] = s.alarms[e].map g)
    (hlast : ∀ a, (decide ((g a).state = .armed) && lastSecond (g a).due) = (decide (a.state = .armed) && lastSecond a.due)) :
    Fired s (gs ++ firePosts .game s (countedFires s)) (ss ++ firePosts .system s (countedFires s)) (fs ++ countedFires s)
      (takeSecond t) := by
  have entries (e : Fin 8) : (counted t).alarms[e] = s.alarms[e].map fun a => (g a).counted := by
    rw [counted_alarms, hg, Option.map_map]
    rfl
  have fires : dueWhere AlarmDue.countedOut (counted t) = countedFires s := by
    rw [dueWhere_countedOut, countedFires]
    exact List.filter_congr fun e _ => armedWhere_map (entries e) fun a => (armedTest_counted (g a)).trans (hlast a)
  have kept (a : AlarmEntry) : (a.counted.owner, a.counted.action) = (a.owner, a.action) := by
    unfold AlarmEntry.counted
    split <;> rfl
  have ran : Fired s gs ss fs (counted t) := h.setAlarms fun e => by
    have entry := counted_alarms t e
    rw [counted] at entry
    dsimp only at entry
    rw [entry, Option.map_map]
    exact congrArg (Option.map · _) (funext kept)
  rw [takeSecond_eq, fires]
  exact ran.fireAll _

/-- What a second makes of each entry (R82). -/
theorem takeSecond_alarms (t : State) (e : Fin 8) : (takeSecond t).alarms[e]
    = t.alarms[e].map fun a => fireIf AlarmDue.countedOut t.power t.clock.now t.gameDay.day a.counted := by
  have fires := fireWhere_alarms AlarmDue.countedOut (counted t) e
  rw [counted_alarms, Option.map_map] at fires
  exact fires

theorem calendarOf_takeSecond (t : State) : calendarOf (takeSecond t) = calendarOf t := calendarOf_fireAll _ _

/-! ### The turn -/

/-- DAY_TURN, if the game day has risen from `s` to `t`. -/
def turnPosts (s t : State) : List (EventKind × Byte) := if s.gameDay.day < t.gameDay.day then [(.dayTurn, 0x00)] else []

/-- The GAME entries that a game day risen from `s` to `t` fires. -/
def turnFires (s t : State) : List (Fin 8) :=
  if s.gameDay.day < t.gameDay.day then dueWhere (AlarmDue.gameReached t.gameDay.day) s else []

/-- An entry after those fires. -/
def turnEntry (s t : State) (a : AlarmEntry) : AlarmEntry :=
  if s.gameDay.day < t.gameDay.day then fireIf (AlarmDue.gameReached t.gameDay.day) s.power t.clock.now t.gameDay.day a else a

theorem turnEntry_of_run {a : AlarmEntry} (h : runOf a.due ≠ 0) : turnEntry s t a = a := by
  unfold turnEntry
  split
  · exact fireIf_of_run (ofRun_gameReached _) h
  · rfl

theorem turnEntry_of_spent {a : AlarmEntry} (h : a.state = .spent) : turnEntry s t a = a := by
  unfold turnEntry
  split
  · exact fireIf_of_spent h
  · rfl

/-- A turn's fires do not touch the entries of another run. -/
theorem armedTest_turnEntry {test : AlarmDue → Bool} {j : Nat} (ht : OfRun j test) (hj : 0 ≠ j) (a : AlarmEntry) :
    (decide ((turnEntry s t a).state = .armed) && test (turnEntry s t a).due) = (decide (a.state = .armed) && test a.due) := by
  unfold turnEntry
  split
  · exact armedTest_fireIf (ofRun_gameReached _) ht hj _ _ _ a
  · rfl

/-- The GAME entries of a new game day fire. -/
theorem Fired.takeGameDay (h : Fired s gs ss fs t) (ha : t.alarms = s.alarms) :
    let es := dueWhere (AlarmDue.gameReached t.gameDay.day) s
    Fired s (gs ++ firePosts .game s es) (ss ++ firePosts .system s es) (fs ++ es) (takeGameDay t) := by
  rw [Machine.takeGameDay, dueWhere_game (ofRun_gameReached _) ha]
  exact h.fireAll _

theorem calendarOf_takeGameDay (t : State) : calendarOf (takeGameDay t) = calendarOf t := calendarOf_fireAll _ _

/-- What a turn leaves without a rise of the game day, and with one its DAY_TURN (R63, R64). -/
theorem turnDay_rise (t : State) :
    ((turnDay t).2 = false ∧ (turnDay t).1.gameDay.day = t.gameDay.day
        ∧ (turnDay t).1 = { t with gameDay := t.gameDay.turn.1 })
      ∨ ((turnDay t).2 = true ∧ t.gameDay.day < t.gameDay.turn.1.day
        ∧ (turnDay t).1 = postBoth .dayTurn 0 { t with gameDay := t.gameDay.turn.1 }) := by
  have turned : turnDay t = (if t.gameDay.turn.2 then postBoth .dayTurn 0 { t with gameDay := t.gameDay.turn.1 }
    else { t with gameDay := t.gameDay.turn.1 }, t.gameDay.turn.2) := rfl
  rw [turned]
  cases hr : t.gameDay.turn.2 with
  | false =>
    refine .inl ⟨rfl, ?_, rfl⟩
    show t.gameDay.turn.1.day = t.gameDay.day
    unfold GameDayRecord.turn at hr ⊢
    repeat' split
    · rfl
    · next h h' => rw [if_neg h, if_pos h'] at hr; cases hr
    · rfl
  | true =>
    refine .inr ⟨rfl, ?_, rfl⟩
    unfold GameDayRecord.turn at hr ⊢
    repeat' split
    · next h => rw [if_pos h] at hr; cases hr
    · exact Nat.lt_succ_self _
    · next h h' => rw [if_neg h, if_neg h'] at hr; cases hr

/-- No rise: no post, no fire, every entry as it was. -/
theorem turn_of_still (h : ¬s.gameDay.day < t.gameDay.day) :
    turnPosts s t = [] ∧ turnFires s t = [] ∧ turnEntry s t = id :=
  ⟨if_neg h, if_neg h, funext fun _ => if_neg h⟩

/-- A risen game day: its DAY_TURN, its fires. -/
theorem turn_of_risen (h : s.gameDay.day < t.gameDay.day) :
    turnPosts s t = [(.dayTurn, 0x00)] ∧ turnFires s t = dueWhere (AlarmDue.gameReached t.gameDay.day) s
      ∧ turnEntry s t = fireIf (AlarmDue.gameReached t.gameDay.day) s.power t.clock.now t.gameDay.day :=
  ⟨if_pos h, if_pos h, funext fun _ => if_pos h⟩

/-- What a second arrival's turn makes of a state: the posts and fires of a rise, and the game-day record. -/
structure Turned (s t u : State) (g : GameDayRecord) : Prop where
  fired : Fired s (turnPosts s u ++ firePosts .game s (turnFires s u)) (turnPosts s u ++ firePosts .system s (turnFires s u))
    (turnFires s u) u
  entries : ∀ e : Fin 8, u.alarms[e] = s.alarms[e].map (turnEntry s u)
  records : calendarOf u = (t.crystal, t.calendar, t.clock, g, t.setting)

theorem Turned.of_still {g : GameDayRecord} (h : Fired s [] [] [] t) (ha : t.alarms = s.alarms)
    (hd : g.day = s.gameDay.day) : Turned s t { t with gameDay := g } g := by
  obtain ⟨posts, fires, entry⟩ := turn_of_still (s := s) (t := { t with gameDay := g }) (Nat.not_lt.2 (Nat.le_of_eq hd))
  refine ⟨?_, fun e => ?_, rfl⟩
  · rw [posts, fires]
    exact h.set t.crystal t.calendar t.clock g t.setting
  · rw [entry, Option.map_id]
    exact congrArg (fun v : Vector (Option AlarmEntry) 8 => v[e]) ha

theorem Turned.of_risen {g : GameDayRecord} (h : Fired s [] [] [] t) (ha : t.alarms = s.alarms)
    (hd : s.gameDay.day < g.day) :
    Turned s t (takeGameDay (postBoth .dayTurn 0 { t with gameDay := g })) g := by
  have posted := (h.set t.crystal t.calendar t.clock g t.setting).postBoth .dayTurn 0
  have records : calendarOf (postBoth .dayTurn 0 { t with gameDay := g }) = (t.crystal, t.calendar, t.clock, g, t.setting) := by
    rw [postBoth_eq]
    rfl
  have alarms : (postBoth .dayTurn 0 { t with gameDay := g }).alarms = s.alarms := by
    rw [postBoth_eq]
    exact ha
  generalize postBoth .dayTurn 0 { t with gameDay := g } = v at posted records alarms
  have after : calendarOf (takeGameDay v) = (t.crystal, t.calendar, t.clock, g, t.setting) :=
    (calendarOf_takeGameDay v).trans records
  have day {w : State} (hw : calendarOf w = (t.crystal, t.calendar, t.clock, g, t.setting)) :
      w.clock = t.clock ∧ w.gameDay = g := by
    simp only [calendarOf, Prod.mk.injEq] at hw
    obtain ⟨-, -, clock, day, -⟩ := hw
    exact ⟨clock, day⟩
  obtain ⟨posts, fires, entry⟩ := turn_of_risen (s := s) (t := takeGameDay v) (by rw [(day after).2]; exact hd)
  have taken := posted.takeGameDay alarms
  refine ⟨?_, fun e => ?_, after⟩
  · rw [posts, fires, (day after).2]
    rw [(day records).2] at taken
    exact taken
  · rw [entry, (day after).1, (day after).2, Machine.takeGameDay, fireWhere_alarms, alarms, posted.power, (day records).1,
      (day records).2]

/-- The turn of a second arrival, if it reaches a turn instant (R62, R63, R80). -/
theorem turned_arrivalTurn (h : Fired s [] [] [] t) (ha : t.alarms = s.alarms) (hd : t.gameDay = s.gameDay) :
    Turned s t (arrivalTurn t)
      (if secondOfDay t.clock.now = s.gameDay.startSecond then s.gameDay.turn.1 else s.gameDay) := by
  unfold arrivalTurn
  rw [hd]
  split
  · dsimp only
    rcases turnDay_rise t with ⟨flag, day, same⟩ | ⟨flag, day, same⟩ <;> rw [hd] at day same
    · rw [flag, if_neg Bool.false_ne_true, same]
      rw [same] at day
      exact .of_still h ha day
    · rw [flag, if_pos rfl, same]
      exact .of_risen h ha day
  · have still := Turned.of_still h ha (g := s.gameDay) rfl
    rwa [← hd] at still ⊢

/-! ### Every entry after a second -/

theorem counted_of_spent {a : AlarmEntry} (h : a.state = .spent) : a.counted = a := by
  unfold AlarmEntry.counted
  split
  · next hs _ => cases h.symm.trans hs
  · rfl

theorem runOf_turnEntry (a : AlarmEntry) : runOf (turnEntry s t a).due = runOf a.due := by
  unfold turnEntry
  split
  · exact runOf_fireIf
  · rfl

/-- An entry after the three runs of fires (R80 to R82). -/
def secondEntry (s t : State) (a : AlarmEntry) : AlarmEntry :=
  fireIf AlarmDue.countedOut s.power t.clock.now t.gameDay.day
    (fireIf (AlarmDue.realWhere (· == instant t.clock.now)) s.power t.clock.now t.gameDay.day (turnEntry s t a)).counted

/-- The last second of a countdown fires it, an earlier one is counted. -/
theorem fireIf_counted {a : AlarmEntry} {n : Nat} {r : Option Nat} (hs : a.state = .armed) (hd : a.due = .countdown n r)
    (p : PowerState) (now : DateTime) (day : Nat) : fireIf AlarmDue.countedOut p now day a.counted
      = if n ≤ 1 then AlarmEntry.fired { a with due := .countdown 0 r } p now day else { a with due := .countdown (n - 1) r } := by
  have ran : a.counted = { a with due := .countdown (n - 1) r } := by
    unfold AlarmEntry.counted
    split
    · next h => obtain ⟨rfl, rfl⟩ := AlarmDue.countdown.inj (hd.symm.trans h); rfl
    · next other => exact absurd hd (other n r hs)
  rw [ran, fireIf]
  by_cases hn : n ≤ 1
  · have zero : n - 1 = 0 := by omega
    rw [if_pos hn, zero, if_pos ⟨hs, rfl⟩]
  · rw [if_neg hn, if_neg]
    rintro ⟨-, out⟩
    have : n - 1 = 0 := eq_of_beq out
    omega

theorem alarmAfterSecond_running (hr : s.calendar = .running) (a : AlarmEntry) : secondEntry s t a = alarmAfterSecond s t a := by
  have reals := ofRun_realWhere (· == instant t.clock.now)
  cases hs : a.state with
  | spent =>
    rw [secondEntry, turnEntry_of_spent hs, fireIf_of_spent hs, counted_of_spent hs, fireIf_of_spent hs]
    simp only [alarmAfterSecond, hs]
  | armed =>
    cases hd : a.due with
    | game n k =>
      have run : runOf (turnEntry s t a).due = 0 := (runOf_turnEntry a).trans (by rw [hd]; rfl)
      rw [secondEntry, fireIf_of_run reals (by omega), counted_of_run (by omega), fireIf_of_run ofRun_countedOut (by omega)]
      simp only [alarmAfterSecond, hs, hd, turnEntry, fireIf, AlarmDue.gameReached, true_and, decide_eq_true_eq]
      by_cases h : s.gameDay.day < t.gameDay.day <;> simp only [h, if_true, if_false, true_and, false_and]
    | real x r =>
      have run : runOf a.due = 1 := by rw [hd]; rfl
      rw [secondEntry, turnEntry_of_run (by omega), counted_of_run (by rw [runOf_fireIf]; omega),
        fireIf_of_run ofRun_countedOut (by rw [runOf_fireIf]; omega)]
      simp only [alarmAfterSecond, hs, hd, hr, fireIf, AlarmDue.realWhere, true_and, beq_iff_eq]
    | countdown n r =>
      have run : runOf a.due = 2 := by rw [hd]; rfl
      rw [secondEntry, turnEntry_of_run (by omega), fireIf_of_run reals (by omega), fireIf_counted hs hd]
      simp only [alarmAfterSecond, hs, hd]

/-- Without a clock no GAME and no REAL entry fires (R52). -/
theorem alarmAfterSecond_invalid (hr : s.calendar = .invalid) (hd : t.gameDay = s.gameDay) (a : AlarmEntry) :
    fireIf AlarmDue.countedOut s.power t.clock.now t.gameDay.day a.counted = alarmAfterSecond s t a := by
  cases hs : a.state with
  | spent =>
    rw [counted_of_spent hs, fireIf_of_spent hs]
    simp only [alarmAfterSecond, hs]
  | armed =>
    cases hdue : a.due with
    | game n k =>
      have run : runOf a.due = 0 := by rw [hdue]; rfl
      rw [counted_of_run (by omega), fireIf_of_run ofRun_countedOut (by omega)]
      simp only [alarmAfterSecond, hs, hdue, hd, Nat.lt_irrefl, false_and, if_false]
    | real x r =>
      have run : runOf a.due = 1 := by rw [hdue]; rfl
      rw [counted_of_run (by omega), fireIf_of_run ofRun_countedOut (by omega)]
      simp only [alarmAfterSecond, hs, hdue, hr, reduceCtorEq, false_and, if_false]
    | countdown n r =>
      rw [fireIf_counted hs hdue]
      simp only [alarmAfterSecond, hs, hdue]

/-! ### The arrival whole -/

theorem secondArrivalOp_of_invalid (hk : s.retention = .kept) (hc : s.calendar = .invalid) :
    secondArrivalOp s = takeSecond { s with crystal := 0 } := by
  rw [secondArrivalOp, hk, if_neg nofun, calendarSecond]
  simp only [hc]

theorem secondArrivalOp_of_running (hk : s.retention = .kept) (hc : s.calendar = .running) :
    secondArrivalOp s = takeSecond (takeTime (arrivalTurn { s with crystal := 0, clock := s.clock.advance })) := by
  rw [secondArrivalOp, hk, if_neg nofun, calendarSecond]
  simp only [hc]

/-- The REAL entries that fire when the clock comes to the time of `t`. -/
def realFires (s t : State) : List (Fin 8) :=
  (List.finRange 8).filter (armedWhere (AlarmDue.realWhere (· == instant t.clock.now)) s)

theorem firePosts_append (m : Master) (s : State) (es fs : List (Fin 8)) :
    firePosts m s (es ++ fs) = firePosts m s es ++ firePosts m s fs := List.flatMap_append

/-- The turn's posts and fires and its change of entries are said by clock and game day alone. -/
theorem turn_congr (hk : u.clock = t.clock) (hd : u.gameDay = t.gameDay) :
    turnPosts s u = turnPosts s t ∧ turnFires s u = turnFires s t ∧ turnEntry s u = turnEntry s t
      ∧ realFires s u = realFires s t := by
  refine ⟨?_, ?_, funext fun a => ?_, ?_⟩
  · rw [turnPosts, hd, turnPosts]
  · rw [turnFires, hd, turnFires]
  · rw [turnEntry, hd, hk, turnEntry]
  · rw [realFires, hk, realFires]

theorem clock_gameDay_of_calendarOf {t u : State} (h : calendarOf u = calendarOf t) :
    u.clock = t.clock ∧ u.gameDay = t.gameDay := by
  simp only [calendarOf, Prod.mk.injEq] at h
  obtain ⟨-, -, clock, day, -⟩ := h
  exact ⟨clock, day⟩

/-- The three runs of fires of a second arrival in RUNNING, after its turn. -/
theorem fired_afterTurn {g : GameDayRecord} (h : Turned s u t g) (w : State) (hw : takeSecond (takeTime t) = w) :
    Fired s (turnPosts s w ++ firePosts .game s (turnFires s w ++ realFires s w ++ countedFires s))
        (turnPosts s w ++ firePosts .system s (turnFires s w ++ realFires s w ++ countedFires s))
        (turnFires s w ++ realFires s w ++ countedFires s) w
      ∧ (∀ e : Fin 8, w.alarms[e] = s.alarms[e].map (secondEntry s w)) ∧ calendarOf w = calendarOf t := by
  have timed : calendarOf (takeTime t) = calendarOf t := calendarOf_fireAll _ _
  have records : calendarOf w = calendarOf t := hw ▸ (calendarOf_takeSecond _).trans timed
  obtain ⟨clock, day⟩ := clock_gameDay_of_calendarOf records
  obtain ⟨clock', day'⟩ := clock_gameDay_of_calendarOf timed
  obtain ⟨posts, fires, entry, reals⟩ := turn_congr (s := s) clock day
  have run := ofRun_realWhere (· == instant t.clock.now)
  have due : dueWhere (AlarmDue.realWhere (· == instant t.clock.now)) t = realFires s t := by
    rw [dueWhere_instant, realFires]
    exact List.filter_congr fun e _ => armedWhere_map (h.entries e) (armedTest_turnEntry run (by decide))
  have rang := h.fired.fireAll (realFires s t)
  rw [← (by rw [takeTime, due] : takeTime t = fireAll (realFires s t) t)] at rang
  have entries (e : Fin 8) : (takeTime t).alarms[e] = s.alarms[e].map fun a =>
      fireIf (AlarmDue.realWhere (· == instant t.clock.now)) s.power t.clock.now t.gameDay.day (turnEntry s t a) := by
    rw [takeTime, fireWhere_alarms, h.entries, Option.map_map, h.fired.power]
    rfl
  have ended := rang.takeSecond entries fun a => (armedTest_fireIf run ofRun_lastSecond (by decide) _ _ _ _).trans
    (armedTest_turnEntry ofRun_lastSecond (by decide) a)
  refine ⟨?_, fun e => ?_, records⟩
  · rw [posts, fires, reals, firePosts_append, firePosts_append, firePosts_append, firePosts_append, ← hw,
      ← List.append_assoc, ← List.append_assoc, ← List.append_assoc, ← List.append_assoc]
    exact ended
  · rw [← hw, takeSecond_alarms, entries, Option.map_map, rang.power, clock', day', hw]
    refine congrArg (Option.map · _) (funext fun a => ?_)
    rw [secondEntry, clock, day, entry]
    rfl

end

/-- One second later the weekday is that of the date (R50). -/
theorem advance_weekday {c : ClockRecord} (h : c.weekday = weekdayOf c.now.date) :
    c.advance.weekday = weekdayOf c.advance.now.date := by
  unfold ClockRecord.advance
  dsimp only
  split
  · next same => rw [same, h]
  · rfl

end Sys2Proof.Safety

open Sys2Proof Sys2Proof.Machine Sys2Proof.Safety

/-- Settles O33: in INVALID the countdowns alone; in RUNNING the turn and the three runs of fires. -/
theorem secondArrivalResults : Obligations.SecondArrivalResults := by
  intro s
  have row {t : State} (h : secondArrivalOp s = t) : exec .secondArrival s = .next t := congrArg _ h
  refine ⟨fun hl => row (if_pos hl), fun hk hc => ⟨_, row (secondArrivalOp_of_invalid hk hc), ?_⟩,
    fun hk hc hs => ⟨_, row (secondArrivalOp_of_running hk hc), ?_⟩⟩
  · have begun : Fired s [] [] [] { s with crystal := 0 } := (Fired.refl s).set 0 s.calendar s.clock s.gameDay s.setting
    have fired := begun.takeSecond (g := id) (fun e => (congrFun Option.map_id _).symm) fun _ => rfl
    have entries := takeSecond_alarms { s with crystal := 0 }
    have records := calendarOf_takeSecond { s with crystal := 0 }
    generalize takeSecond { s with crystal := 0 } = t at fired entries records
    obtain ⟨clock, day⟩ := clock_gameDay_of_calendarOf records
    refine ⟨fired.eq records, fun e => ?_⟩
    rw [entries]
    refine congrArg (Option.map · _) (funext fun a => ?_)
    rw [← alarmAfterSecond_invalid hc day, clock, day]
  · have begun : Fired s [] [] [] { s with crystal := 0, clock := s.clock.advance } :=
      (Fired.refl s).set 0 s.calendar s.clock.advance s.gameDay s.setting
    have turned := turned_arrivalTurn begun rfl rfl
    obtain ⟨fired, entries, records⟩ := fired_afterTurn turned _ rfl
    generalize takeSecond (takeTime (arrivalTurn { s with crystal := 0, clock := s.clock.advance })) = t at fired entries records
    have records := records.trans turned.records
    have all := records
    simp only [calendarOf, Prod.mk.injEq] at all
    obtain ⟨-, -, clock, day, -⟩ := all
    obtain ⟨valid, weekday, -⟩ := hs
    obtain ⟨nextValid, nextInstant⟩ := nextSecond_spec valid
    refine ⟨?_, ?_, ?_, ?_, ?_, fun e => ?_⟩
    · have said : calendarOf t = (0, s.calendar, t.clock, t.gameDay, s.setting) := by
        rw [clock, day]
        exact records
      have whole := fired.eq said
      simp only [turnFires, dueWhere_eq_filter] at whole
      exact whole
    · rw [clock]
      exact nextValid
    · rw [clock]
      exact nextInstant
    · rw [clock]
      exact advance_weekday weekday
    · rw [clock]
      exact day
    · rw [entries]
      exact congrArg (Option.map · _) (funext fun a => alarmAfterSecond_running hc a)

end

section
/-! A setting of the clock (R54 to R60, R64, R86): refused, same, backward; first and forward with their fires. -/

namespace Sys2Proof.Safety

open Sys2Proof.Machine

section
variable {s t u : State} {gs ss : List (EventKind × Byte)} {fs : List (Fin 8)}

/-! ### Turns one after another -/

/-- Turns one after another post one DAY_TURN for each that changed the game day, and leave the rest. -/
theorem Fired.applyTurns (h : Fired s gs ss fs t) (n k : Nat) : ∃ m, (applyTurns n (t, k)).2 = k + m
    ∧ Fired s (gs ++ List.replicate m (.dayTurn, 0x00)) (ss ++ List.replicate m (.dayTurn, 0x00)) fs (applyTurns n (t, k)).1
    ∧ (applyTurns n (t, k)).1.alarms = t.alarms
    ∧ calendarOf (applyTurns n (t, k)).1 = (t.crystal, t.calendar, t.clock, (applyTurns n (t, k)).1.gameDay, t.setting) := by
  induction n generalizing gs ss t k with
  | zero =>
    refine ⟨0, rfl, ?_, rfl, rfl⟩
    rw [List.replicate_zero, List.append_nil, List.append_nil]
    exact h
  | succ n ih =>
    have set := h.set t.crystal t.calendar t.clock t.gameDay.turn.1 t.setting
    unfold Machine.applyTurns
    dsimp only
    rcases turnDay_rise t with ⟨flag, -, same⟩ | ⟨flag, -, same⟩
    · rw [flag, if_neg Bool.false_ne_true, same]
      exact ih set k
    · rw [flag, if_pos rfl, same]
      have posted := set.postBoth .dayTurn 0
      have alarms : (Machine.postBoth .dayTurn 0 { t with gameDay := t.gameDay.turn.1 }).alarms = t.alarms := by rw [postBoth_eq]
      have records : calendarOf (Machine.postBoth .dayTurn 0 { t with gameDay := t.gameDay.turn.1 })
          = (t.crystal, t.calendar, t.clock, t.gameDay.turn.1, t.setting) := by
        rw [postBoth_eq]
        rfl
      generalize Machine.postBoth .dayTurn 0 { t with gameDay := t.gameDay.turn.1 } = v at posted alarms records
      simp only [calendarOf, Prod.mk.injEq] at records
      obtain ⟨crystal, calendar, clock, -, setting⟩ := records
      obtain ⟨m, count, fired, kept, same⟩ := ih posted (k + 1)
      rw [List.append_assoc, List.append_assoc, List.singleton_append, ← List.replicate_succ] at fired
      exact ⟨m + 1, by omega, fired, kept.trans alarms, by rw [same, crystal, calendar, clock, setting]⟩

/-! ### Entries -/

/-- Fires of the entries that meet a test, by a list made before other entries fired. -/
theorem fireAll_alarms_of {test : AlarmDue → Bool} {es : List (Fin 8)} (hn : es.Nodup)
    (hmem : ∀ e, e ∈ es ↔ armedWhere test t e = true) (e : Fin 8) :
    (fireAll es t).alarms[e] = t.alarms[e].map (fireIf test t.power t.clock.now t.gameDay.day) := by
  rw [← fireWhere_alarms, fireAll_alarms _ _ hn, fireAll_alarms _ _ (dueWhere_nodup test t)]
  exact if_congr ((hmem e).trans mem_dueWhere_iff.symm) rfl rfl

/-- A REAL due that a setting from `s` to `t` passes. -/
def passed (s t : State) : AlarmDue → Bool :=
  AlarmDue.realWhere fun n => decide ((s.calendar = .invalid ∨ instant s.clock.now < n) ∧ n ≤ instant t.clock.now)

/-- An entry after the fires of a setting. -/
theorem alarmAfterSetting_eq (s t : State) (a : AlarmEntry) :
    fireIf (passed s t) s.power t.clock.now t.gameDay.day (turnEntry s t a) = alarmAfterSetting s t a := by
  have reals : OfRun 1 (passed s t) := ofRun_realWhere _
  cases hs : a.state with
  | spent =>
    rw [turnEntry_of_spent hs, fireIf_of_spent hs]
    simp only [alarmAfterSetting, hs]
  | armed =>
    cases hd : a.due with
    | game n k =>
      have run : runOf (turnEntry s t a).due = 0 := (runOf_turnEntry a).trans (by rw [hd]; rfl)
      rw [fireIf_of_run reals (by omega)]
      simp only [alarmAfterSetting, hs, hd, turnEntry, fireIf, AlarmDue.gameReached, true_and, decide_eq_true_eq]
      by_cases h : s.gameDay.day < t.gameDay.day <;> simp only [h, if_true, if_false, true_and, false_and]
    | real x r =>
      have run : runOf a.due = 1 := by rw [hd]; rfl
      rw [turnEntry_of_run (by omega)]
      simp only [alarmAfterSetting, hs, hd, fireIf, passed, AlarmDue.realWhere, true_and, decide_eq_true_eq]
    | countdown n r =>
      have run : runOf a.due = 2 := by rw [hd]; rfl
      rw [turnEntry_of_run (by omega), fireIf_of_run reals (by omega)]
      simp only [alarmAfterSetting, hs, hd]

/-- The REAL entries passed fire after a turn's GAME entries. -/
theorem fireAll_passed {test : AlarmDue → Bool} (hp : t.power = s.power)
    (hg : ∀ e : Fin 8, t.alarms[e] = s.alarms[e].map (turnEntry s t))
    (ht : test = passed s t) (e : Fin 8) :
    (fireAll (dueWhere test s) t).alarms[e] = s.alarms[e].map (alarmAfterSetting s t) := by
  have reals : OfRun 1 test := ht ▸ ofRun_realWhere _
  have member (f : Fin 8) : f ∈ dueWhere test s ↔ armedWhere test t f = true := by
    rw [mem_dueWhere_iff, armedWhere_map (hg f) (armedTest_turnEntry reals (by decide))]
  rw [fireAll_alarms_of (dueWhere_nodup _ _) member, hg, Option.map_map, ht, hp]
  exact congrArg (Option.map · _) (funext (alarmAfterSetting_eq s t))

/-! ### The settings -/

theorem queueAfter_of_on (hp : s.power ≠ .off) (es : List (EventKind × Byte)) (q : EventRecord) : queueAfter s es q = posted es q :=
  if_neg hp

theorem alarms_of_sameDay (ha : t.alarms = s.alarms) (hd : t.gameDay = s.gameDay) (e : Fin 8) :
    t.alarms[e] = s.alarms[e].map (turnEntry s t) := by
  have still : turnEntry s t = id := funext fun _ => if_neg (by rw [hd]; exact Nat.lt_irrefl _)
  rw [ha, still, Option.map_id]
  rfl

/-- The GAME entries fire if the game day has risen. -/
theorem Fired.takeRisen {p : Prop} [Decidable p] (h : Fired s gs ss [] t) (ha : t.alarms = s.alarms)
    (hp : p ↔ s.gameDay.day < t.gameDay.day) {v : State} (hv : (if p then Machine.takeGameDay t else t) = v) :
    Fired s (gs ++ firePosts .game s (turnFires s v)) (ss ++ firePosts .system s (turnFires s v)) (turnFires s v) v
      ∧ (∀ e : Fin 8, v.alarms[e] = s.alarms[e].map (turnEntry s v)) ∧ calendarOf v = calendarOf t := by
  have records : calendarOf v = calendarOf t := by
    rw [← hv]
    split
    · exact calendarOf_takeGameDay t
    · rfl
  obtain ⟨clock, day⟩ := clock_gameDay_of_calendarOf records
  by_cases hr : s.gameDay.day < t.gameDay.day
  · obtain ⟨-, fires, entry⟩ := turn_of_risen (s := s) (t := v) (by rw [day]; exact hr)
    have taken := h.takeGameDay ha
    have entries (e : Fin 8) : (Machine.takeGameDay t).alarms[e] = s.alarms[e].map
        (fireIf (AlarmDue.gameReached t.gameDay.day) s.power t.clock.now t.gameDay.day) := by
      rw [Machine.takeGameDay, fireWhere_alarms, ha, h.power]
    rw [if_pos (hp.2 hr)] at hv
    rw [fires, entry, day, clock, ← hv]
    exact ⟨taken, entries, hv ▸ records⟩
  · obtain ⟨-, fires, entry⟩ := turn_of_still (s := s) (t := v) (by rw [day]; exact hr)
    rw [if_neg (mt hp.1 hr)] at hv
    have silent (m : Master) : firePosts m s [] = [] := rfl
    rw [fires, entry, silent, silent, List.append_nil, List.append_nil, ← hv]
    exact ⟨h, fun e => (congrArg (fun w : Vector (Option AlarmEntry) 8 => w[e]) ha).trans (congrFun Option.map_id _).symm, rfl⟩

/-- The clock record a setting gives. -/
def clockAt (t : DateTime) : ClockRecord := { now := t, weekday := weekdayOf t.date }

/-- CLOCK_SET and the REAL entries passed, after a game day's fires. -/
theorem Fired.settle (h : Fired s gs ss fs t) (hg : ∀ e : Fin 8, t.alarms[e] = s.alarms[e].map (turnEntry s t)) (d : Byte)
    {test : AlarmDue → Bool} (ht : test = passed s t) :
    let w := Machine.fireAll (dueWhere test s) (Machine.postGame .clockSet d t)
    Fired s (gs ++ [(.clockSet, d)] ++ firePosts .game s (dueWhere test s)) (ss ++ firePosts .system s (dueWhere test s))
        (fs ++ dueWhere test s) w
      ∧ (∀ e : Fin 8, w.alarms[e] = s.alarms[e].map (alarmAfterSetting s w)) ∧ calendarOf w = calendarOf t := by
  have posted := h.postGame .clockSet d
  have plain : ∃ q, Machine.postGame .clockSet d t = { t with gameEvents := q } := ⟨_, postGame_eq ..⟩
  obtain ⟨q, plain⟩ := plain
  rw [plain] at posted ⊢
  have records : calendarOf (Machine.fireAll (dueWhere test s) { t with gameEvents := q }) = calendarOf t := calendarOf_fireAll _ _
  refine ⟨posted.fireAll _, fun e => ?_, records⟩
  obtain ⟨clock, day⟩ := clock_gameDay_of_calendarOf records
  have after : alarmAfterSetting s (Machine.fireAll (dueWhere test s) { t with gameEvents := q }) = alarmAfterSetting s t :=
    funext fun a => by rw [alarmAfterSetting, clock, day, alarmAfterSetting]
  rw [after]
  exact fireAll_passed (t := { t with gameEvents := q }) h.power hg ht e

theorem firstSetting_spec (hc : s.calendar = .invalid) (n : DateTime) :
    let reals := dueWhere (AlarmDue.realWhere fun x => decide (x ≤ instant n)) s
    let w := firstSetting n s
    Fired s ([(.clockSet, 0x00)] ++ firePosts .game s reals) (firePosts .system s reals) reals w
      ∧ (∀ e : Fin 8, w.alarms[e] = s.alarms[e].map (alarmAfterSetting s w))
      ∧ calendarOf w = (s.crystal, .running, clockAt n, s.gameDay,
          { kind := .first, found := 0, applied := 0, advanced := 0, debtAdded := 0 }) := by
  have set := (Fired.refl s).set s.crystal .running (clockAt n) s.gameDay
    { kind := .first, found := 0, applied := 0, advanced := 0, debtAdded := 0 }
  refine set.settle (alarms_of_sameDay rfl rfl) 0 (funext fun d => ?_)
  simp only [passed, hc, true_or, true_and]
  rfl

/-- The turns of a forward setting. -/
def passedTurns (n : DateTime) (s : State) : Nat := turnInstants s.gameDay.startSecond (instant s.clock.now) (instant n)

theorem forwardSetting_spec (hc : s.calendar = .running) (hd : s.gameDay.day ≤ 65535) (n : DateTime) :
    let reals := dueWhere (AlarmDue.realWhere fun x => decide (instant s.clock.now < x ∧ x ≤ instant n)) s
    let k := passedTurns n s
    let applied := min k s.gameDay.catchUp
    let day := min (s.gameDay.day + (applied - s.gameDay.debt)) 65535
    let risen := day - s.gameDay.day
    let games := if s.gameDay.day < day then dueWhere (AlarmDue.gameReached day) s else []
    let w := forwardSetting n s
    Fired s (List.replicate risen (.dayTurn, 0x00) ++ firePosts .game s games ++ [(.clockSet, BitVec.ofNat 8 (min risen 254))]
          ++ firePosts .game s reals)
        (List.replicate risen (.dayTurn, 0x00) ++ firePosts .system s games ++ firePosts .system s reals) (games ++ reals) w
      ∧ (∀ e : Fin 8, w.alarms[e] = s.alarms[e].map (alarmAfterSetting s w))
      ∧ calendarOf w = (s.crystal, s.calendar, clockAt n, { s.gameDay with day := day, debt := s.gameDay.debt - applied },
          { kind := .forward, found := k, applied := applied, advanced := risen, debtAdded := 0 }) := by
  intro reals k applied day risen games w
  have set : Fired s [] [] [] (setClock n s) := (Fired.refl s).set s.crystal s.calendar (clockAt n) s.gameDay s.setting
  obtain ⟨m, count, fired, alarms, records⟩ := set.applyTurns applied 0
  obtain ⟨gameDay, changed⟩ := applyTurns_gameDay applied (setClock n s) 0 hd
  have unfolded : w = fireAll reals (postGame .clockSet (BitVec.ofNat 8 (min (applyTurns applied (setClock n s, 0)).2 254))
      { (if 0 < (applyTurns applied (setClock n s, 0)).2 then takeGameDay (applyTurns applied (setClock n s, 0)).1
          else (applyTurns applied (setClock n s, 0)).1) with
        setting := { kind := .forward, found := k, applied := applied, advanced := (applyTurns applied (setClock n s, 0)).2
                     debtAdded := 0 } }) := rfl
  have said : m = risen := Nat.add_left_cancel (count.symm.trans changed)
  rw [count, Nat.zero_add, said] at unfolded
  rw [said] at fired
  rw [gameDay] at records
  generalize (applyTurns applied (setClock n s, 0)).1 = v at fired alarms gameDay records unfolded
  have rose : 0 < risen ↔ s.gameDay.day < v.gameDay.day := by
    rw [gameDay]
    show 0 < day - s.gameDay.day ↔ s.gameDay.day < day
    omega
  generalize hx : (if 0 < risen then takeGameDay v else v) = x at unfolded
  obtain ⟨fires, entries, same⟩ := fired.takeRisen alarms rose hx
  have records := same.trans records
  have all := records
  simp only [calendarOf, Prod.mk.injEq] at all
  obtain ⟨crystal, calendar, clock, reached, -⟩ := all
  have turned : turnFires s x = games := by
    rw [turnFires, reached]
    rfl
  rw [turned] at fires
  have set := fires.set x.crystal x.calendar x.clock x.gameDay
    { kind := .forward, found := k, applied := applied, advanced := risen, debtAdded := 0 }
  obtain ⟨fired, entries, ended⟩ := set.settle (test := AlarmDue.realWhere fun z => decide (instant s.clock.now < z ∧ z ≤ instant n))
    entries (BitVec.ofNat 8 (min risen 254)) (funext fun d => by
      simp only [passed, hc, clock, reduceCtorEq, false_or]
      rfl)
  rw [unfolded]
  exact ⟨fired, entries, ended.trans (by simp only [calendarOf, crystal, calendar, clock, reached]; rfl)⟩

/-! ### The request -/

theorem clockSetOp_of_refused {y mo d h mi se : Byte} (hv : (dateTimeOf y mo d h mi se).valid = false) :
    clockSetOp y mo d h mi se s = (s, .range) := if_pos hv

theorem clockSetOp_of_invalid {y mo d h mi se : Byte} (hv : (dateTimeOf y mo d h mi se).valid = true)
    (hc : s.calendar = .invalid) : clockSetOp y mo d h mi se s = (firstSetting (dateTimeOf y mo d h mi se) s, .ok) := by
  simp only [clockSetOp, hv, hc, reduceCtorEq, if_false]

theorem clockSetOp_of_running {y mo d h mi se : Byte} (hv : (dateTimeOf y mo d h mi se).valid = true)
    (hc : s.calendar = .running) : clockSetOp y mo d h mi se s
      = if instant s.clock.now < instant (dateTimeOf y mo d h mi se) then (forwardSetting (dateTimeOf y mo d h mi se) s, .ok)
        else if instant (dateTimeOf y mo d h mi se) < instant s.clock.now then
          (backwardSetting (dateTimeOf y mo d h mi se) s, .ok)
        else (sameSetting s, .ok) := by
  simp only [clockSetOp, hv, hc, reduceCtorEq, if_false]

end

end Sys2Proof.Safety

open Sys2Proof Sys2Proof.Machine Sys2Proof.Safety

/-- Settles O34: the five settings one by one, the first and the forward one with their fires. -/
theorem clockSetResults : Obligations.ClockSetResults := by
  intro y mo d h mi se s hs
  have answered {t : State} {o : OutcomeCode} (hop : clockSetOp y mo d h mi se s = (t, o)) :
      exec (.clockSet .system y mo d h mi se) s = .next (replied o [] t) :=
    next_runLink [0x20, y, mo, d, h, mi, se] hs (by simp [noData]) (by simp only [noData, hop])
  have posts (es : List (EventKind × Byte)) (q : EventRecord) := queueAfter_of_on hs.1 es q
  refine ⟨fun hv => answered (clockSetOp_of_refused hv), fun hv hc same => ?_, fun hv hc earlier => ?_,
    fun hv hc => ⟨_, answered (clockSetOp_of_invalid hv hc), ?_⟩, fun hv hc later hd => ⟨_, answered
      ((clockSetOp_of_running hv hc).trans (if_pos later)), ?_⟩⟩
  · refine answered ((clockSetOp_of_running hv hc).trans ?_)
    rw [if_neg (by exact Nat.not_lt.2 (Nat.le_of_eq same)), if_neg (by exact Nat.not_lt.2 (Nat.le_of_eq same.symm))]
    exact congrArg (·, OutcomeCode.ok) (postGame_of_on _ _ hs.1)
  · refine answered ((clockSetOp_of_running hv hc).trans ?_)
    rw [if_neg (by exact Nat.lt_asymm earlier), if_pos (by exact earlier)]
    exact congrArg (·, OutcomeCode.ok) (postGame_of_on _ _ hs.1)
  · obtain ⟨fired, entries, records⟩ := firstSetting_spec hc (dateTimeOf y mo d h mi se)
    generalize firstSetting (dateTimeOf y mo d h mi se) s = w at fired entries records
    have whole := fired.eq records
    rw [posts, posts, dueWhere_eq_filter] at whole
    exact ⟨congrArg (replied .ok []) whole, entries⟩
  · obtain ⟨fired, entries, records⟩ := forwardSetting_spec hc hd (dateTimeOf y mo d h mi se)
    generalize forwardSetting (dateTimeOf y mo d h mi se) s = w at fired entries records
    have whole := fired.eq records
    rw [posts, posts] at whole
    simp only [dueWhere_eq_filter] at whole
    exact ⟨congrArg (replied .ok []) whole, entries⟩

end
